-- ==== Sys2Proof/Word.lean ====
section
/-! DEFINITION. The word types of the Lazrin S1624. -/

namespace Sys2Proof

/-- One byte of a frame (R126). -/
abbrev Byte := BitVec 8

/-- A two-byte field: sequence numbers, entry numbers, CRCs (R199). -/
abbrev Word := BitVec 16

/-- A four-byte field: timestamps, generations (R199). -/
abbrev DWord := BitVec 32

end Sys2Proof
end

