-- ==== Sys2Proof/Config.lean ====
section
/-! DEFINITION. What the part's name and manual fix for every S1624, and the choices that the manual or the outside leaves free. -/

namespace Sys2Proof

/-- Loads L0 to L15 (00, 0-2). -/
abbrev LoadIx := Fin 16

/-- Channels 0 to 23 (00, 0-2). -/
abbrev ChanIx := Fin 24

/-- Severity ladders K0 to K3 (R47). -/
abbrev LadderIx := Fin 4

/-- Limit watches W0 to W15 (05). -/
abbrev WatchIx := Fin 16

/-- FREE VALUE (log 7). R136: while the transmitter is IDLE, a queued reply and an offer of a record can arrive together,
and the first one taken starts its frame. The manual does not say which is taken first; this constant, applied to the
number of free choices made so far, does, and nothing is known of it. True: the offer is taken first. -/
opaque Config.offerTakenFirst : Nat → Bool

/-- FREE VALUE (log 2). R1: a timer expires once its stated time has fully passed, and no later than one millisecond after that.
The manual does not say which; this constant, applied to the number of free choices made so far, says whether the one
millisecond passes as well, and nothing is known of it. -/
opaque Config.expiresLate : Nat → Bool

/-- FREE VALUE (log 1). R187: whether the read-back of a save agrees is decided by the nonvolatile memory. SAVE_END carries the
outcome; where the part ends a save with no command waiting, this constant, applied to the number of free choices made so far,
says whether it agrees, and nothing is known of it. -/
opaque Config.readBackAgrees : Nat → Bool

end Sys2Proof
end

