-- ==== Sys2Proof/Syntax.lean ====
section
/-! DEFINITION. The commands of the S1624: one constructor per row of spec/opcode_table.json, in its order. -/

namespace Sys2Proof

/-- The level of a digital input pin. -/
inductive PinLevel where
  | low
  | high
  deriving DecidableEq, Repr

/-- A step of the part. The request rows have no operand: each takes the oldest entry of the inbound queue, which holds the
frame (R132, R141). A timer row names the load where the timer is a load's. -/
inductive Instr where
  /-- HELLO request taken (R145). -/
  | hello
  /-- GRANT request taken (R112). -/
  | grant
  /-- ACK request taken (R117). -/
  | ack
  /-- RESEND request taken (R119). -/
  | resend
  /-- SNAPSHOT request taken (R105). -/
  | snapshot
  /-- DEMAND request taken (R163). -/
  | demand
  /-- CLEAR request taken (R164). -/
  | clear
  /-- SET LOAD request taken (R165). -/
  | setLoad
  /-- READ LOAD request taken (R166). -/
  | readLoad
  /-- FORCE LEVEL request taken (R167). -/
  | forceLevel
  /-- SET LADDER request taken (R168). -/
  | setLadder
  /-- SET CUTOFF request taken (R169). -/
  | setCutoff
  /-- READ SEVERITY request taken (R170). -/
  | readSeverity
  /-- SET SCAN request taken (R171). -/
  | setScan
  /-- SET CHANNEL request taken (R172). -/
  | setChannel
  /-- READ CHANNELS request taken (R173). -/
  | readChannels
  /-- SET WATCH request taken (R174). -/
  | setWatch
  /-- ACK WATCH request taken (R175). -/
  | ackWatch
  /-- READ WATCH request taken (R176). -/
  | readWatch
  /-- SET GLOBALS request taken (R177). -/
  | setGlobals
  /-- READ SYSTEM request taken (R178). -/
  | readSystem
  /-- READ LINK request taken (R179). -/
  | readLink
  /-- SAVE request taken (R186). -/
  | save
  /-- RESET request taken (R154). -/
  | reset
  /-- A good frame of no assigned request kind taken (R143). -/
  | badKindFrame
  /-- A byte arrives at the receiver, with its stop bit sampled low (`stopError`) or high (R127, R128). -/
  | byteArrival (byte : Byte) (stopError : Bool)
  /-- The framer's interbyte timer expires (R129). -/
  | interbyteTimeout
  /-- The last CRC byte of the frame on TXD ends (R135). -/
  | lineFrees
  /-- The supply comes up or returns (R190). -/
  | powerOnReset
  /-- RST_N is driven low (R190). -/
  | pinReset
  /-- The reset ends; the straps stand at these levels as step 1 samples them (R191). -/
  | resetEnd (br1 br0 asInh : PinLevel)
  /-- The 30 ms of step 2 end and steps 2 to 6 complete; AS_INH_N stands at this level at step 6 (R192 to R195). -/
  | profileSelection (asInh : PinLevel)
  /-- The conversion in progress ends with this raw value, 0 to 4095 (R81). -/
  | readingArrival (raw : Nat)
  /-- The cycle pause timer expires (R76). -/
  | pauseExpiry
  /-- The oldest reading handed to the severity unit reaches its ladders (R51). -/
  | ladderEvaluation
  /-- The oldest reading handed to the watch unit reaches its watches (R91). -/
  | watchEvaluation
  /-- The oldest reading handed to the load controller reaches its load (R11, R13, R18, R20). -/
  | loadReading
  /-- The sequencer grants the start slot to the head of the queue (R38). -/
  | startGrant
  /-- The settle timer of load n expires (R12). -/
  | settleExpiry (n : LoadIx)
  /-- The clean-run timer of load n expires (R16). -/
  | cleanRunExpiry (n : LoadIx)
  /-- The backoff timer of load n expires (R21). -/
  | backoffExpiry (n : LoadIx)
  /-- The start gap timer expires (R41). -/
  | gapExpiry
  /-- The restore hold timer expires (R67). -/
  | restoreHoldExpiry
  /-- The silence timer expires (R148). -/
  | silenceExpiry
  /-- The save in flight ends; its read-back agrees (`verified`) or not (R187). -/
  | saveEnd (verified : Bool)
  /-- Pin PGn changes to this level (R14). -/
  | pgPinChange (n : LoadIx) (level : PinLevel)
  /-- The qualification time of PGn passes (R14, R15). -/
  | pgQualified (n : LoadIx)
  /-- Pin KILL_N changes to this level (R196). -/
  | killPinChange (level : PinLevel)
  /-- The qualification time of KILL passes (R197). -/
  | killQualified
  /-- Pin SHED_N changes to this level (R196). -/
  | shedPinChange (level : PinLevel)
  /-- The qualification time of SHED passes (R198). -/
  | shedQualified
  /-- The supply falls below its operating level (R189, R190). -/
  | powerLoss
  deriving DecidableEq, Repr

end Sys2Proof
end

