-- ==== Sys2Proof/Decode.lean ====
section
/-! DEFINITION. The command that a word spells by the bits of spec/opcode_table.json. No row of the table has bits. -/

namespace Sys2Proof

/-- No row of spec/opcode_table.json gives bits (each has an empty list of fields), so no word spells a command. The frames of
the serial line, which do carry requests as bytes, are read by the receive framer (`Machine.frameByte`), byte by byte. -/
def decodeTableWord (_nbits _w : Nat) : Option Instr := none

end Sys2Proof
end

