-- ==== Sys2Proof/WellFormed.lean ====
section
/-! DEFINITION. Which commands are well formed. Load numbers, bytes and pin levels are well formed by their types; the raw
value of a conversion is a number of a 12-bit converter (R74, 11-6). -/

namespace Sys2Proof

/-- A command whose operands the spec's ranges allow. -/
def Instr.wellFormed : Instr → Bool
  | .readingArrival raw => decide (raw ≤ 4095)
  | .hello | .grant | .ack | .resend | .snapshot | .demand | .clear | .setLoad | .readLoad | .forceLevel
  | .setLadder | .setCutoff | .readSeverity | .setScan | .setChannel | .readChannels | .setWatch | .ackWatch
  | .readWatch | .setGlobals | .readSystem | .readLink | .save | .reset | .badKindFrame => true
  | .byteArrival _ _ | .interbyteTimeout | .lineFrees | .powerOnReset | .pinReset | .resetEnd _ _ _
  | .profileSelection _ | .pauseExpiry | .ladderEvaluation | .watchEvaluation | .loadReading | .startGrant
  | .settleExpiry _ | .cleanRunExpiry _ | .backoffExpiry _ | .gapExpiry | .restoreHoldExpiry | .silenceExpiry
  | .saveEnd _ | .pgPinChange _ _ | .pgQualified _ | .killPinChange _ | .killQualified | .shedPinChange _
  | .shedQualified | .powerLoss => true

/-- The row of spec/opcode_table.json, counted from 0. -/
def Instr.row : Instr → Nat
  | .hello => 0 | .grant => 1 | .ack => 2 | .resend => 3 | .snapshot => 4 | .demand => 5 | .clear => 6
  | .setLoad => 7 | .readLoad => 8 | .forceLevel => 9 | .setLadder => 10 | .setCutoff => 11 | .readSeverity => 12
  | .setScan => 13 | .setChannel => 14 | .readChannels => 15 | .setWatch => 16 | .ackWatch => 17
  | .readWatch => 18 | .setGlobals => 19 | .readSystem => 20 | .readLink => 21 | .save => 22 | .reset => 23
  | .badKindFrame => 24 | .byteArrival _ _ => 25 | .interbyteTimeout => 26 | .lineFrees => 27
  | .powerOnReset => 28 | .pinReset => 29 | .resetEnd _ _ _ => 30 | .profileSelection _ => 31
  | .readingArrival _ => 32 | .pauseExpiry => 33 | .ladderEvaluation => 34 | .watchEvaluation => 35
  | .loadReading => 36 | .startGrant => 37 | .settleExpiry _ => 38 | .cleanRunExpiry _ => 39
  | .backoffExpiry _ => 40 | .gapExpiry => 41 | .restoreHoldExpiry => 42 | .silenceExpiry => 43
  | .saveEnd _ => 44 | .pgPinChange _ _ => 45 | .pgQualified _ => 46 | .killPinChange _ => 47
  | .killQualified => 48 | .shedPinChange _ => 49 | .shedQualified => 50 | .powerLoss => 51

end Sys2Proof
end

