-- ==== Sys2Proof/Machine/State.lean ====
section
/-! DEFINITION. The state of the S1624, block by block, its values after reset, and the reasons a step can stop. -/

namespace Sys2Proof.Machine

/-- Reasons the part stops with a fault. There is none: no rule of the manual stops the part with an error (INVENTORY.md,
Faults). Safe: a step never ends in a fault. -/
inductive Fault where
  deriving DecidableEq, Repr

/-- Reasons the model gives a command no meaning. -/
inductive Refusal where
  /-- Raised by an arm of `exec` for a row that has no meaning yet. No arm raises it now. Safe. -/
  | notModelled (mnemonic : String)
  deriving DecidableEq, Repr

/-! ### Values shared by several blocks -/

/-- A timer of the part (R1): not running; running with this many ms of its stated time left; or overdue, its stated time over
and the one millisecond more that R1 allows over too, so that it expires before any more time passes. -/
inductive Timer where
  | stopped
  | running (left : Nat)
  | overdue
  deriving DecidableEq, Repr

/-- A reading's value in its channel's unit, or `none` where the manual's fields stand at 8000h (no reading, R74, R199). -/
abbrev Reading := Option Int

/-- The three reset causes (R139, R190). -/
inductive ResetCause where
  | powerOn
  | pin
  | request
  deriving DecidableEq, Repr

/-- The nonvolatile slots (R183). -/
inductive SlotName where
  | s0
  | s1
  deriving DecidableEq, Repr

/-- The levels of BR1, BR0 and AS_INH_N that step 1 of start-up sampled (R191). -/
structure Straps where
  br1 : PinLevel
  br0 : PinLevel
  asInh : PinLevel
  deriving DecidableEq, Repr

/-! ### The working set (R182) -/

/-- Feedback mode of a load (R2). -/
inductive Feedback where
  | none
  | required
  deriving DecidableEq, Repr

/-- Orphan action of a load (R2, R27). -/
inductive OrphanAction where
  | keep
  | off
  | on
  deriving DecidableEq, Repr

/-- Configuration of a load (R2). `settle` counts steps of 10 ms; `backoff` is in s. -/
structure LoadConfig where
  fitted : Bool
  priority : Nat
  settle : Nat
  inrush : Nat
  runLimit : Nat
  confirm : Nat
  budget : Nat
  backoff : Nat
  feedback : Feedback
  orphan : OrphanAction
  autostart : Bool
  deriving DecidableEq, Repr

/-- Direction of a ladder (R48). -/
inductive Direction where
  | rising
  | falling
  deriving DecidableEq, Repr

/-- Configuration of a ladder (R48). Entry k − 1 of `enter` is Ek, of `exit` Xk. -/
structure LadderConfig where
  enabled : Bool
  source : ChanIx
  direction : Direction
  top : Nat
  confirm : Nat
  fault : Nat
  enter : Vector Int 4
  exit : Vector Int 4
  deriving DecidableEq, Repr

/-- Mode of a watch (R89). -/
inductive WatchMode where
  | off
  | tracking
  | latched
  deriving DecidableEq, Repr

/-- Configuration of a watch (R89). -/
structure WatchConfig where
  mode : WatchMode
  channel : ChanIx
  low : Int
  high : Int
  hysteresis : Nat
  deriving DecidableEq, Repr

/-- Configuration of a channel (R73). -/
structure ChannelConfig where
  gain : Nat
  offset : Int
  faultDetect : Bool
  deriving DecidableEq, Repr

/-- The six globals (R177). `startGap` counts steps of 10 ms; `cleanRun`, `restoreHold` and `silenceTimeout` are in s. -/
structure Globals where
  cleanRun : Nat
  startGap : Nat
  startCeiling : Nat
  restoreHold : Nat
  silenceTimeout : Nat
  shedInputLevel : Nat
  deriving DecidableEq, Repr

/-- The working set: the whole configuration of the part (R182). Entry D − 1 of `cutoff` is cutoff[D]. -/
structure WorkingSet where
  loads : Vector LoadConfig 16
  ladders : Vector LadderConfig 4
  cutoff : Vector Nat 4
  watches : Vector WatchConfig 16
  scanList : List ChanIx
  cyclePause : Nat
  channels : Vector ChannelConfig 24
  globals : Globals
  deriving DecidableEq, Repr

/-- Factory defaults of a load (R2). -/
def LoadConfig.factory : LoadConfig :=
  { fitted := false, priority := 7, settle := 10, inrush := 0, runLimit := 0, confirm := 2, budget := 3, backoff := 5,
    feedback := .none, orphan := .keep, autostart := false }

/-- Factory defaults of a ladder (R48). -/
def LadderConfig.factory : LadderConfig :=
  { enabled := false, source := 16, direction := .falling, top := 1, confirm := 3, fault := 0,
    enter := #v[0, 0, 0, 0], exit := #v[1, 0, 0, 0] }

/-- Factory defaults of a watch (R89). -/
def WatchConfig.factory : WatchConfig :=
  { mode := .off, channel := 16, low := 0, high := 1, hysteresis := 0 }

/-- Factory defaults of a channel (R73). -/
def ChannelConfig.factory : ChannelConfig := { gain := 1024, offset := 0, faultDetect := false }

/-- Factory defaults of the globals (R182). -/
def Globals.factory : Globals :=
  { cleanRun := 30, startGap := 20, startCeiling := 1, restoreHold := 30, silenceTimeout := 0, shedInputLevel := 2 }

/-- Factory defaults of the working set (R182). -/
def WorkingSet.factory : WorkingSet :=
  { loads := Vector.replicate 16 LoadConfig.factory
    ladders := Vector.replicate 4 LadderConfig.factory
    cutoff := #v[8, 6, 4, 1]
    watches := Vector.replicate 16 WatchConfig.factory
    scanList := [0, 1, 2, 3, 4, 5, 6, 7, 8, 9, 10, 11, 12, 13, 14, 15, 16, 17, 18, 19, 20, 21, 22, 23]
    cyclePause := 10
    channels := Vector.replicate 24 ChannelConfig.factory
    globals := Globals.factory }

/-! ### Load controller (R3) -/

/-- The seven states of a load (R3). -/
inductive LoadState where
  | off
  | queued
  | starting
  | on
  | shed
  | tripped
  | locked
  deriving DecidableEq, Repr

/-- The five trip causes (R3, R19). -/
inductive TripCause where
  | inrush
  | overcurrent
  | noFeedback
  | feedbackLost
  | senseFault
  deriving DecidableEq, Repr

/-- The causes a LOAD_STATE report names (R30). -/
inductive Cause where
  | demand
  | grant
  | settled
  | trip (cause : TripCause)
  | shed
  | restore
  | backoffEnd
  | clear
  | kill
  | orphan
  | autostart
  deriving DecidableEq, Repr

/-- The dynamic fields of a load record (R3). `demand` true is ON. -/
structure LoadRec where
  demand : Bool
  state : LoadState
  retries : Nat
  tripCause : Option TripCause
  overStreak : Nat
  senseStreak : Nat
  settle : Timer
  backoff : Timer
  cleanRun : Timer
  entry : Option Word
  deriving DecidableEq, Repr

/-- A load record after reset (R3). -/
def LoadRec.reset : LoadRec :=
  { demand := false, state := .off, retries := 0, tripCause := none, overStreak := 0, senseStreak := 0,
    settle := .stopped, backoff := .stopped, cleanRun := .stopped, entry := none }

/-! ### Start sequencer (R31) -/

/-- An entry of the start queue (R31). -/
structure QueueEntry where
  load : LoadIx
  priority : Nat
  number : Word
  deriving DecidableEq, Repr

/-- The start sequencer (R31). -/
structure Sequencer where
  queue : List QueueEntry
  counter : Word
  slot : Option LoadIx
  gap : Timer
  deriving DecidableEq, Repr

/-- The start sequencer after reset (R31). -/
def Sequencer.reset : Sequencer := { queue := [], counter := 0, slot := none, gap := .stopped }

/-! ### Severity unit (R47, R49) -/

/-- The dynamic fields of a ladder (R49). -/
structure Ladder where
  level : Nat
  up : Nat
  down : Nat
  last : Reading
  deriving DecidableEq, Repr

/-- A ladder after reset (R49). -/
def Ladder.reset : Ladder := { level := 0, up := 0, down := 0, last := none }

/-- What sets the depth (R60); NONE is `none` of an Option. -/
inductive Contributor where
  | ladder (k : LadderIx)
  | shedInput
  | hostFloor
  deriving DecidableEq, Repr

/-- The severity unit (R47). -/
structure Severity where
  ladders : Vector Ladder 4
  shedInput : Bool
  hostFloor : Nat
  depth : Nat
  contributor : Option Contributor
  hold : Timer
  deriving DecidableEq, Repr

/-- The severity unit after reset (R47). -/
def Severity.reset : Severity :=
  { ladders := Vector.replicate 4 Ladder.reset, shedInput := false, hostFloor := 0, depth := 0, contributor := none,
    hold := .stopped }

/-! ### Scanner (R74, R76, R84) -/

/-- The state of the scanner (R76). While CONVERTING it converts `channel`; `restart` says that an accepted SET SCAN made
entry 0 of the new list the next conversion (R86). -/
inductive ScanState where
  | stopped
  | converting (channel : ChanIx) (restart : Bool)
  | paused
  deriving DecidableEq, Repr

/-- A channel record (R74). -/
structure ChannelRec where
  latest : Reading
  valid : Bool
  read : Bool
  raw : Nat
  timestamp : DWord
  deriving DecidableEq, Repr

/-- A channel record after reset (R74). -/
def ChannelRec.reset : ChannelRec := { latest := none, valid := true, read := false, raw := 0, timestamp := 0 }

/-- A reading of a channel handed on and not yet taken (R82; log 6), with the destinations that were bound to the channel when
it arrived and that no request has bound anew since (R83). `none` is the mark of an invalid reading. -/
structure Delivery (Destinations : Type) where
  channel : ChanIx
  reading : Reading
  bound : Destinations
  deriving DecidableEq, Repr

/-- The scanner (R74, R76, R84), with the readings it has handed on to each of the three groups of R82 and that wait there,
oldest first (the model's own fields, log 6). -/
structure Scanner where
  state : ScanState
  cursor : Nat
  pause : Timer
  records : Vector ChannelRec 24
  primed : Bool
  toLadders : List (Delivery (List LadderIx))
  toWatches : List (Delivery (List WatchIx))
  toLoads : List (Delivery LoadIx)
  deriving DecidableEq, Repr

/-- The scanner after reset (R74, R76, R84). -/
def Scanner.reset : Scanner :=
  { state := .stopped, cursor := 0, pause := .stopped, records := Vector.replicate 24 ChannelRec.reset, primed := false,
    toLadders := [], toWatches := [], toLoads := [] }

/-! ### Watch unit (R90) -/

/-- The state of a watch (R90). -/
inductive WatchState where
  | pending
  | inside
  | above
  | below
  | fault
  deriving DecidableEq, Repr

/-- The dynamic fields of a watch (R90). -/
structure WatchRec where
  state : WatchState
  latched : Bool
  last : Reading
  deriving DecidableEq, Repr

/-- A watch after reset (R90). -/
def WatchRec.reset : WatchRec := { state := .pending, latched := false, last := none }

/-! ### Report store (R102, R103) -/

/-- The state of a nonvolatile slot as R183 names it. -/
inductive SlotState where
  | valid
  | invalid
  | blank
  deriving DecidableEq, Repr

/-- What a record carries, by its kind (R104, R202). A SNAPSHOT record carries eight readings. -/
inductive Payload where
  | reset (cause : ResetCause) (straps : Straps)
  | profileLoaded (slot : Option SlotName) (generation : DWord) (target : SlotName) (targetState : SlotState)
  | loadState (n : LoadIx) (old new : LoadState) (cause : Cause) (retries : Nat) (reading : Reading)
  | level (k : LadderIx) (old new : Nat) (source : ChanIx) (reading : Reading)
  | depth (old new : Nat) (contributor : Option Contributor)
  | watch (w : WatchIx) (channel : ChanIx) (mode : WatchMode) (old new : WatchState) (reading : Reading) (low high : Int)
  | sensor (c : ChanIx) (valid : Bool) (raw : Nat) (reading : Reading)
  | kill (asserted : Bool)
  | shedInput (asserted : Bool) (level : Nat)
  | hostLost (timeout : Nat)
  | hostReturned (kind tag : Byte)
  | profileSaved (slot : SlotName) (generation : DWord)
  | saveFailed (slot : SlotName) (generation : DWord)
  | snapshot (values : List Reading)
  | loss (count : Nat)
  deriving DecidableEq, Repr

/-- A record of the report store (R103) and the state of its slot: SENT or POSTED (R102). -/
structure Record where
  number : Word
  first : Bool
  last : Bool
  resent : Bool
  timestamp : DWord
  payload : Payload
  sent : Bool
  deriving DecidableEq, Repr

/-- The report store (R102, R106, R107, R111). `records` are the records of the slots that are not FREE, oldest first; the
slots themselves carry no order (R102), so their number alone is kept (log 16). -/
structure Store where
  records : List Record
  counter : Word
  credits : Nat
  lost : Nat
  deriving DecidableEq, Repr

/-- The report store after reset (R123). -/
def Store.reset : Store := { records := [], counter := 0, credits := 0, lost := 0 }

/-! ### Link interface (R128 to R138) -/

/-- A frame of the line (7-2), less its start byte; its length byte is the length of the body. -/
structure Frame where
  kind : Byte
  tag : Byte
  body : List Byte
  crc : Word
  deriving DecidableEq, Repr

/-- The receive framer and the frame it is building (R128). -/
inductive Framer where
  | hunt
  | length
  | header (len : Nat) (kind : Option Byte)
  | body (len : Nat) (kind tag : Byte) (bytes : List Byte)
  | check (kind tag : Byte) (bytes : List Byte) (low : Option Byte)
  deriving DecidableEq, Repr

/-- A reply of the reply queue (R134); `resets` marks the reply to an accepted RESET (R154). -/
structure Reply where
  frame : Frame
  resets : Bool
  deriving DecidableEq, Repr

/-- The transmitter (R135): IDLE, or SENDING the frame of a reply or of a report. -/
inductive Transmitter where
  | idle
  | reply (r : Reply)
  | report (frame : Frame)
  deriving DecidableEq, Repr

/-- The six link counters (R137). -/
structure LinkStats where
  accepted : Nat
  dropped : Nat
  length : Nat
  timeout : Nat
  framing : Nat
  crc : Nat
  deriving DecidableEq, Repr

/-- The link counters after reset (R137). -/
def LinkStats.zero : LinkStats := { accepted := 0, dropped := 0, length := 0, timeout := 0, framing := 0, crc := 0 }

/-- The link interface (R128 to R138). -/
structure Link where
  rxEnabled : Bool
  framer : Framer
  interbyte : Timer
  inbound : List Frame
  replies : List Reply
  tx : Transmitter
  stats : LinkStats
  deriving DecidableEq, Repr

/-- The link interface after reset (R138). -/
def Link.reset : Link :=
  { rxEnabled := false, framer := .hunt, interbyte := .stopped, inbound := [], replies := [], tx := .idle,
    stats := LinkStats.zero }

/-! ### Session unit (R139) -/

/-- Session states (R140). -/
inductive SessionState where
  | down
  | up
  | lost
  deriving DecidableEq, Repr

/-- An entry of the reply cache (R151). -/
structure CacheEntry where
  tag : Byte
  crc : Word
  reply : Frame
  deriving DecidableEq, Repr

/-- The session unit (R139). `cache` is in the order of writing, oldest first. -/
structure Session where
  state : SessionState
  silence : Timer
  cache : List CacheEntry
  cause : ResetCause
  taking : Bool
  deriving DecidableEq, Repr

/-- The session unit after a reset of this cause (R139). -/
def Session.reset (cause : ResetCause) : Session :=
  { state := .down, silence := .stopped, cache := [], cause := cause, taking := false }

/-! ### Profile store (R183, R184) -/

/-- The contents of a nonvolatile slot (R183): never written, written with a CRC that disagrees, or an image and its
generation under a CRC that agrees (log 14). -/
inductive NvSlot where
  | blank
  | torn
  | written (generation : DWord) (image : WorkingSet)
  deriving DecidableEq, Repr

/-- What the profile store knows of a slot after judging it (R184). -/
inductive SlotKnown where
  | valid (generation : DWord)
  | invalid
  | blank
  deriving DecidableEq, Repr

/-- A save in flight (R184, R186). -/
structure Save where
  target : SlotName
  generation : DWord
  image : WorkingSet
  timer : Timer
  deriving DecidableEq, Repr

/-- The profile store (R183, R184, R191). `known0` and `known1` are `none` until the profile selection. -/
structure Profile where
  slot0 : NvSlot
  slot1 : NvSlot
  known0 : Option SlotKnown
  known1 : Option SlotKnown
  active : Option SlotName
  generation : DWord
  dirty : Bool
  save : Option Save
  straps : Straps
  deriving DecidableEq, Repr

/-- The profile store of a part fresh from the factory, after reset (R183, R184; logs 10, 11). -/
def Profile.reset : Profile :=
  { slot0 := .blank, slot1 := .blank, known0 := none, known1 := none, active := none, generation := 0, dirty := false,
    save := none, straps := { br1 := .low, br0 := .low, asInh := .high } }

/-! ### Input qualifiers (R14, R196) -/

/-- An input qualifier: the pin's level, the qualified state (true is asserted) and the qualification time. -/
structure Qualifier where
  pin : PinLevel
  qualified : Bool
  timer : Timer
  deriving DecidableEq, Repr

/-- The qualifiers of KILL_N, SHED_N and PG0 to PG15. -/
structure Qualifiers where
  kill : Qualifier
  shed : Qualifier
  pg : Vector Qualifier 16
  deriving DecidableEq, Repr

/-- The qualifiers after reset (R14, R196), the pins at rest (log 10). -/
def Qualifiers.reset : Qualifiers :=
  { kill := { pin := .high, qualified := false, timer := .stopped }
    shed := { pin := .high, qualified := false, timer := .stopped }
    pg := Vector.replicate 16 { pin := .low, qualified := false, timer := .stopped } }

/-! ### The whole part -/

/-- Where the part stands between power and running (R190 to R195). -/
inductive Phase where
  /-- The supply is below its operating level. -/
  | unpowered
  /-- A reset is held. -/
  | held
  /-- Start-up step 2: both nonvolatile slots are being read and judged. -/
  | selecting
  /-- Start-up has ended. -/
  | running
  deriving DecidableEq, Repr

/-- The S1624, and the commands that wait, first in, first out. `choices` counts the free choices made: the
meetings of R136 and the expiries of R1 (the model's own field, logs 2 and 7). -/
structure State where
  pending : List Instr
  phase : Phase
  timeBase : DWord
  startup : Timer
  ws : WorkingSet
  loads : Vector LoadRec 16
  seq : Sequencer
  sev : Severity
  scan : Scanner
  watches : Vector WatchRec 16
  store : Store
  link : Link
  session : Session
  prof : Profile
  quals : Qualifiers
  choices : Nat
  deriving DecidableEq, Repr

/-- The part right after a POWER_ON reset is taken and while it is held, fresh from the factory (log 8). -/
def State.reset : State :=
  { pending := []
    phase := .held
    timeBase := 0
    startup := .stopped
    ws := WorkingSet.factory
    loads := Vector.replicate 16 LoadRec.reset
    seq := Sequencer.reset
    sev := Severity.reset
    scan := Scanner.reset
    watches := Vector.replicate 16 WatchRec.reset
    store := Store.reset
    link := Link.reset
    session := Session.reset .powerOn
    prof := Profile.reset
    quals := Qualifiers.reset
    choices := 0 }

end Sys2Proof.Machine
end

