-- ==== Sys2Proof/Machine/Bytes.lean ====
section
/-! DEFINITION. Bytes on the line: field encodings, codes, the CRC, report records and frames (chapter 11). -/

namespace Sys2Proof.Machine

/-! ### Field encodings (R199) -/

/-- An unsigned one-byte field. -/
def byte (n : Nat) : List Byte := [BitVec.ofNat 8 n]

/-- An unsigned two-byte field, least significant byte first. -/
def le16 (n : Nat) : List Byte := [BitVec.ofNat 8 n, BitVec.ofNat 8 (n / 256)]

/-- An unsigned four-byte field, least significant byte first. -/
def le32 (n : Nat) : List Byte :=
  [BitVec.ofNat 8 n, BitVec.ofNat 8 (n / 256), BitVec.ofNat 8 (n / 65536), BitVec.ofNat 8 (n / 16777216)]

/-- A signed two-byte field, two's complement. -/
def sle16 (v : Int) : List Byte := le16 (BitVec.ofInt 16 v).toNat

/-- A reading, 8000h for no reading. -/
def readingBytes : Reading → List Byte
  | none => le16 0x8000
  | some v => sle16 v

/-- A yes/no field. -/
def yesNoByte (b : Bool) : List Byte := byte b.toNat

/-- A flags byte; bit 0 is the head of the list, and bits that the list does not reach are 0. -/
def flagBits : List Bool → Nat
  | [] => 0
  | b :: rest => b.toNat + 2 * flagBits rest

/-- A field padded with 00h to this length. -/
def padTo (n : Nat) (bytes : List Byte) : List Byte := bytes ++ List.replicate (n - bytes.length) 0

/-! ### Codes (R204) -/

/-- The code FFh of "none" (R199). -/
def noneCode : Nat := 0xFF

/-- Load state codes (R204). -/
def LoadState.code : LoadState → Nat
  | .off => 0 | .queued => 1 | .starting => 2 | .on => 3 | .shed => 4 | .tripped => 5 | .locked => 6

/-- Trip cause codes, which are cause codes 3 to 7 (R204). -/
def TripCause.code : TripCause → Nat
  | .inrush => 3 | .overcurrent => 4 | .noFeedback => 5 | .feedbackLost => 6 | .senseFault => 7

/-- Cause codes (R204). -/
def Cause.code : Cause → Nat
  | .demand => 0 | .grant => 1 | .settled => 2 | .trip c => c.code | .shed => 8 | .restore => 9 | .backoffEnd => 10
  | .clear => 11 | .kill => 12 | .orphan => 13 | .autostart => 14

/-- Feedback mode codes (R204). -/
def Feedback.code : Feedback → Nat
  | .none => 0 | .required => 1

/-- Orphan action codes (R204). -/
def OrphanAction.code : OrphanAction → Nat
  | .keep => 0 | .off => 1 | .on => 2

/-- Ladder direction codes (R204). -/
def Direction.code : Direction → Nat
  | .rising => 0 | .falling => 1

/-- Depth contributor codes (R204). -/
def contributorCode : Option Contributor → Nat
  | none => noneCode | some (.ladder k) => k.val | some .shedInput => 4 | some .hostFloor => 5

/-- Watch mode codes (R204). -/
def WatchMode.code : WatchMode → Nat
  | .off => 0 | .tracking => 1 | .latched => 2

/-- Watch state codes (R204). -/
def WatchState.code : WatchState → Nat
  | .pending => 0 | .inside => 1 | .above => 2 | .below => 3 | .fault => 4

/-- Nonvolatile slot codes (R204). -/
def SlotName.code : SlotName → Nat
  | .s0 => 0 | .s1 => 1

/-- A nonvolatile slot or none (R199, R204). -/
def slotCode : Option SlotName → Nat
  | none => noneCode | some n => n.code

/-- Slot state codes (R204). -/
def SlotState.code : SlotState → Nat
  | .valid => 0 | .invalid => 1 | .blank => 2

/-- Reset cause codes (R204). -/
def ResetCause.code : ResetCause → Nat
  | .powerOn => 0 | .pin => 1 | .request => 2

/-- Session state codes (R204). -/
def SessionState.code : SessionState → Nat
  | .down => 0 | .up => 1 | .lost => 2

/-- The level of a pin as a bit, 1 for high (R202). -/
def PinLevel.isHigh : PinLevel → Bool
  | .low => false | .high => true

/-- The straps byte of the RESET payload (R202). -/
def Straps.bits (p : Straps) : Nat :=
  flagBits [PinLevel.isHigh p.br0, PinLevel.isHigh p.br1, PinLevel.isHigh p.asInh]

/-- Report kind codes (R204). -/
def Payload.kindCode : Payload → Nat
  | .reset _ _ => 0x01 | .profileLoaded _ _ _ _ => 0x02 | .loadState _ _ _ _ _ _ => 0x03 | .level _ _ _ _ _ => 0x04
  | .depth _ _ _ => 0x05 | .watch _ _ _ _ _ _ _ _ => 0x06 | .sensor _ _ _ _ => 0x07 | .kill _ => 0x08
  | .shedInput _ _ => 0x09 | .hostLost _ => 0x0A | .hostReturned _ _ => 0x0B | .profileSaved _ _ => 0x0C
  | .saveFailed _ _ => 0x0D | .snapshot _ => 0x0E | .loss _ => 0x0F

/-- The fields of a payload at their offsets, before padding (R202). -/
def Payload.fields : Payload → List Byte
  | .reset cause straps => byte cause.code ++ byte straps.bits
  | .profileLoaded slot gen target st => byte (slotCode slot) ++ le32 gen.toNat ++ byte target.code ++ byte st.code
  | .loadState n old new cause retries r =>
      byte n.val ++ byte old.code ++ byte new.code ++ byte cause.code ++ byte retries ++ byte 0 ++ readingBytes r
  | .level k old new source r => byte k.val ++ byte old ++ byte new ++ byte source.val ++ readingBytes r
  | .depth old new c => byte old ++ byte new ++ byte (contributorCode c)
  | .watch w c mode old new r low high =>
      byte w.val ++ byte c.val ++ byte mode.code ++ byte old.code ++ byte new.code ++ byte 0 ++ readingBytes r ++
        sle16 low ++ sle16 high
  | .sensor c valid raw r => byte c.val ++ yesNoByte valid ++ le16 raw ++ readingBytes r
  | .kill a => yesNoByte a
  | .shedInput a l => yesNoByte a ++ byte l
  | .hostLost t => byte t
  | .hostReturned kind tag => [kind, tag]
  | .profileSaved slot gen => byte slot.code ++ le32 gen.toNat
  | .saveFailed slot gen => byte slot.code ++ le32 gen.toNat
  | .snapshot values => values.flatMap readingBytes
  | .loss n => le16 n

/-- The 16 bytes of a payload; the bytes that a kind does not use are 00h (R202). -/
def Payload.bytes (p : Payload) : List Byte := padTo 16 p.fields

/-- The 24 bytes of a record (R201). -/
def Record.bytes (r : Record) : List Byte :=
  le16 r.number.toNat ++ byte r.payload.kindCode ++ byte (flagBits [r.first, r.last, r.resent]) ++
    le32 r.timestamp.toNat ++ r.payload.bytes

/-! ### The CRC (R200) -/

/-- One step of the CRC register: shift one place up, and add 1021h if the bit shifted out is 1. -/
def crcStep (r : Word) : Word := if r.msb then (r <<< 1) ^^^ 0x1021#16 else r <<< 1

/-- The CRC register after one byte: added into the upper eight bits, then stepped eight times. -/
def crcByte (r : Word) (b : Byte) : Word :=
  crcStep (crcStep (crcStep (crcStep (crcStep (crcStep (crcStep (crcStep (r ^^^ (b.setWidth 16 <<< 8)))))))))

/-- The CRC of these bytes, from FFFFh, not inverted. -/
def crc16 (bytes : List Byte) : Word := bytes.foldl crcByte 0xFFFF#16

/-- The CRC of a frame: over its length, kind, tag and body, in order (R200). -/
def frameCrc (kind tag : Byte) (body : List Byte) : Word :=
  crc16 (BitVec.ofNat 8 body.length :: kind :: tag :: body)

/-- A frame that the part builds, with the CRC that it computes (R200). -/
def mkFrame (kind tag : Byte) (body : List Byte) : Frame :=
  { kind := kind, tag := tag, body := body, crc := frameCrc kind tag body }

/-- The bytes of a frame on the line, start byte first (R199). -/
def Frame.bytes (f : Frame) : List Byte :=
  0xC3#8 :: BitVec.ofNat 8 f.body.length :: f.kind :: f.tag :: (f.body ++ le16 f.crc.toNat)

/-- The report frame of a record: kind 7Fh, tag 00h, the record as its body (R113, R133). -/
def reportFrame (r : Record) : Frame := mkFrame 0x7F#8 0x00#8 r.bytes

/-! ### Status codes (R144) -/

/-- The statuses of a reply (R144). -/
inductive Status where
  | ok
  | badKind
  | badLength
  | badField
  | badState
  | busy
  | noSession
  | killed
  | partly
  deriving DecidableEq, Repr

/-- Status codes; `partly` is PARTIAL (R144). -/
def Status.code : Status → Nat
  | .ok => 0 | .badKind => 1 | .badLength => 2 | .badField => 3 | .badState => 4 | .busy => 5 | .noSession => 6
  | .killed => 7 | .partly => 8

/-- The status byte that opens every reply body (R133). -/
def Status.bytes (st : Status) : List Byte := byte st.code

/-! ### Request kinds (R204) -/

/-- The assigned request kinds (R204). -/
def assignedKinds : List Byte :=
  [0x01, 0x02, 0x03, 0x04, 0x05, 0x10, 0x11, 0x12, 0x13, 0x18, 0x19, 0x1A, 0x1B, 0x20, 0x21, 0x22, 0x24, 0x25, 0x26,
   0x28, 0x29, 0x2A, 0x30, 0x3E]

/-- The kind of the reply to a request of this assigned kind (R133). -/
def replyKind (kind : Byte) : Byte := kind + 0x40#8

end Sys2Proof.Machine
end

