-- ==== Sys2Proof/Machine/Operands.lean ====
section
/-! DEFINITION. The fields of request bodies: how each is read from its bytes and which values each accepts (chapter 9). -/

namespace Sys2Proof.Machine

/-! ### Fields by place (R156, R199) -/

/-- The unsigned byte at offset i of a body. -/
def u8 (b : List Byte) (i : Nat) : Nat := (b.getD i 0).toNat

/-- The unsigned two-byte field at offset i. -/
def u16 (b : List Byte) (i : Nat) : Nat := u8 b i + 256 * u8 b (i + 1)

/-- The signed two-byte field at offset i. -/
def s16 (b : List Byte) (i : Nat) : Int :=
  if u16 b i < 32768 then (u16 b i : Int) else (u16 b i : Int) - 65536

/-- A yes/no field takes 0 and 1. -/
def yesNo? : Nat → Option Bool
  | 0 => some false
  | 1 => some true
  | _ => none

/-- A load number, 0 to 15. -/
def load? (n : Nat) : Option LoadIx := if h : n < 16 then some ⟨n, h⟩ else none

/-- A channel number, 0 to 23. -/
def chan? (n : Nat) : Option ChanIx := if h : n < 24 then some ⟨n, h⟩ else none

/-- A ladder number, 0 to 3. -/
def ladder? (n : Nat) : Option LadderIx := if h : n < 4 then some ⟨n, h⟩ else none

/-- A watch number, 0 to 15. -/
def watch? (n : Nat) : Option WatchIx := if h : n < 16 then some ⟨n, h⟩ else none

/-- Feedback mode, by its code. -/
def feedback? : Nat → Option Feedback
  | 0 => some .none
  | 1 => some .required
  | _ => none

/-- Orphan action, by its code. -/
def orphan? : Nat → Option OrphanAction
  | 0 => some .keep
  | 1 => some .off
  | 2 => some .on
  | _ => none

/-- Ladder direction, by its code. -/
def direction? : Nat → Option Direction
  | 0 => some .rising
  | 1 => some .falling
  | _ => none

/-- Watch mode, by its code. -/
def watchMode? : Nat → Option WatchMode
  | 0 => some .off
  | 1 => some .tracking
  | 2 => some .latched
  | _ => none

/-- A threshold or limit: −32767 to 32767, so not 8000h (R156). -/
def limitOk (v : Int) : Bool := decide (-32767 ≤ v) && decide (v ≤ 32767)

/-! ### SET LOAD (R165) -/

/-- The ranges of R165. -/
def LoadConfig.ok (c : LoadConfig) : Bool :=
  decide (c.priority ≤ 7) && decide (1 ≤ c.settle) && decide (c.settle ≤ 255) && decide (c.inrush ≤ 32767) &&
    decide (c.runLimit ≤ 32767) && decide (1 ≤ c.confirm) && decide (c.confirm ≤ 8) && decide (c.budget ≤ 15) &&
    decide (1 ≤ c.backoff) && decide (c.backoff ≤ 255)

/-- The load configuration that a SET LOAD body carries after its load number, if every field is in range. -/
def LoadConfig.ofBody (b : List Byte) : Option LoadConfig :=
  match yesNo? (u8 b 1), feedback? (u8 b 11), orphan? (u8 b 12), yesNo? (u8 b 13) with
  | some fitted, some feedback, some orphan, some autostart =>
    let c : LoadConfig :=
      { fitted := fitted, priority := u8 b 2, settle := u8 b 3, inrush := u16 b 4, runLimit := u16 b 6,
        confirm := u8 b 8, budget := u8 b 9, backoff := u8 b 10, feedback := feedback, orphan := orphan,
        autostart := autostart }
    if c.ok then some c else none
  | _, _, _, _ => none

/-- The 13 bytes of a load configuration, in the order and sizes of SET LOAD (R203). -/
def LoadConfig.bytes (c : LoadConfig) : List Byte :=
  yesNoByte c.fitted ++ byte c.priority ++ byte c.settle ++ le16 c.inrush ++ le16 c.runLimit ++ byte c.confirm ++
    byte c.budget ++ byte c.backoff ++ byte c.feedback.code ++ byte c.orphan.code ++ yesNoByte c.autostart

/-! ### SET LADDER (R69, R168) -/

/-- Enter threshold Ek, for k from 1 to 4. -/
def LadderConfig.enterAt (c : LadderConfig) (k : Nat) : Int := c.enter.toList.getD (k - 1) 0

/-- Exit threshold Xk, for k from 1 to 4. -/
def LadderConfig.exitAt (c : LadderConfig) (k : Nat) : Int := c.exit.toList.getD (k - 1) 0

/-- `a` lies strictly on the better side of `b` (R50, R69): below it on a RISING ladder, above it on a FALLING one. -/
def Direction.better (d : Direction) (a b : Int) : Bool :=
  match d with
  | .rising => decide (a < b)
  | .falling => decide (b < a)

/-- The order checks of R69 on E1 to ET and X1 to XT. -/
def LadderConfig.ordered (c : LadderConfig) : Bool :=
  (List.range (c.top - 1)).all (fun i =>
      c.direction.better (c.enterAt (i + 1)) (c.enterAt (i + 2)) &&
        c.direction.better (c.exitAt (i + 1)) (c.exitAt (i + 2))) &&
    (List.range c.top).all (fun i => c.direction.better (c.exitAt (i + 1)) (c.enterAt (i + 1)))

/-- The checks of R69 on a ladder's own fields. -/
def LadderConfig.ok (c : LadderConfig) : Bool :=
  decide (1 ≤ c.top) && decide (c.top ≤ 4) && decide (1 ≤ c.confirm) && decide (c.confirm ≤ 8) &&
    decide (c.fault ≤ c.top) && c.enter.toList.all limitOk && c.exit.toList.all limitOk && c.ordered

/-- The ladder configuration that a SET LADDER body carries after its ladder number, if its own fields pass R69. -/
def LadderConfig.ofBody (b : List Byte) : Option LadderConfig :=
  match yesNo? (u8 b 1), chan? (u8 b 2), direction? (u8 b 3) with
  | some enabled, some source, some direction =>
    let c : LadderConfig :=
      { enabled := enabled, source := source, direction := direction, top := u8 b 4, confirm := u8 b 5,
        fault := u8 b 6, enter := #v[s16 b 7, s16 b 9, s16 b 11, s16 b 13],
        exit := #v[s16 b 15, s16 b 17, s16 b 19, s16 b 21] }
    if c.ok then some c else none
  | _, _, _ => none

/-- The 22 bytes of a ladder configuration, in the form SET LADDER carries it (R168, R170). -/
def LadderConfig.bytes (c : LadderConfig) : List Byte :=
  yesNoByte c.enabled ++ byte c.source.val ++ byte c.direction.code ++ byte c.top ++ byte c.confirm ++ byte c.fault ++
    c.enter.toList.flatMap sle16 ++ c.exit.toList.flatMap sle16

/-! ### SET CUTOFF (R64, R169) -/

/-- Entries of 1 to 8, none greater than the one before it (R64). -/
def cutoffOk (t : Vector Nat 4) : Bool :=
  t.toList.all (fun x => decide (1 ≤ x) && decide (x ≤ 8)) &&
    decide (t[1] ≤ t[0]) && decide (t[2] ≤ t[1]) && decide (t[3] ≤ t[2])

/-- The table that a SET CUTOFF body carries, if it passes R64. -/
def cutoffOfBody (b : List Byte) : Option (Vector Nat 4) :=
  let t : Vector Nat 4 := #v[u8 b 0, u8 b 1, u8 b 2, u8 b 3]
  if cutoffOk t then some t else none

/-! ### SET WATCH (R99, R174) -/

/-- The checks of R99 on a watch's own fields; the width of the window is the exact difference. -/
def WatchConfig.ok (c : WatchConfig) : Bool :=
  limitOk c.low && limitOk c.high && decide (c.low < c.high) && decide (c.hysteresis ≤ 32767) &&
    decide ((c.hysteresis : Int) < c.high - c.low)

/-- The watch configuration that a SET WATCH body carries after its watch number, if its own fields pass R99. -/
def WatchConfig.ofBody (b : List Byte) : Option WatchConfig :=
  match watchMode? (u8 b 1), chan? (u8 b 2) with
  | some mode, some channel =>
    let c : WatchConfig := { mode := mode, channel := channel, low := s16 b 3, high := s16 b 5, hysteresis := u16 b 7 }
    if c.ok then some c else none
  | _, _ => none

/-! ### SET SCAN (R85, R171) -/

/-- The channel numbers of a list of bytes, if each is 0 to 23. -/
def chanList? : List Byte → Option (List ChanIx)
  | [] => some []
  | b :: rest =>
    match chan? b.toNat, chanList? rest with
    | some c, some cs => some (c :: cs)
    | _, _ => none

/-- 1 to 32 entries and a pause of 0 to 250 ms (R85). -/
def scanOk (list : List ChanIx) (pause : Nat) : Bool :=
  decide (1 ≤ list.length) && decide (list.length ≤ 32) && decide (pause ≤ 250)

/-- The scan list and cycle pause that a SET SCAN body carries, if they pass R85's range checks. -/
def scanOfBody (b : List Byte) : Option (List ChanIx × Nat) :=
  match chanList? (b.drop 2) with
  | some list => if scanOk list (u8 b 1) then some (list, u8 b 1) else none
  | none => none

/-! ### SET CHANNEL (R87, R172) -/

/-- The ranges of R73. -/
def ChannelConfig.ok (c : ChannelConfig) : Bool :=
  decide (c.gain ≤ 65535) && decide (-32768 ≤ c.offset) && decide (c.offset ≤ 32767)

/-- The channel configuration that a SET CHANNEL body carries after its channel number. -/
def ChannelConfig.ofBody (b : List Byte) : Option ChannelConfig :=
  match yesNo? (u8 b 5) with
  | some faultDetect => some { gain := u16 b 1, offset := s16 b 3, faultDetect := faultDetect }
  | none => none

/-! ### SET GLOBALS (R177) -/

/-- The ranges of R177. -/
def Globals.ok (g : Globals) : Bool :=
  decide (1 ≤ g.cleanRun) && decide (g.cleanRun ≤ 255) && decide (g.startGap ≤ 255) && decide (g.startCeiling ≤ 4) &&
    decide (1 ≤ g.restoreHold) && decide (g.restoreHold ≤ 600) && decide (g.silenceTimeout ≤ 255) &&
    decide (g.shedInputLevel ≤ 4)

/-- The globals that a SET GLOBALS body carries, if each is in range. -/
def Globals.ofBody (b : List Byte) : Option Globals :=
  let g : Globals :=
    { cleanRun := u8 b 0, startGap := u8 b 1, startCeiling := u8 b 2, restoreHold := u16 b 3,
      silenceTimeout := u8 b 5, shedInputLevel := u8 b 6 }
  if g.ok then some g else none

/-! ### The image of a nonvolatile slot (R183) -/

/-- Every field of the image lies within the range its request accepts (R183). -/
def WorkingSet.ok (w : WorkingSet) : Bool :=
  w.loads.toList.all LoadConfig.ok && w.ladders.toList.all LadderConfig.ok && cutoffOk w.cutoff &&
    w.watches.toList.all WatchConfig.ok && scanOk w.scanList w.cyclePause && w.channels.toList.all ChannelConfig.ok &&
    w.globals.ok

end Sys2Proof.Machine
end

