-- ==== Sys2Proof/Machine/Flags.lean ====
section
/-! DEFINITION. What is computed from the state and held nowhere: output pins, the shed test, the depth that the contributions
form, the grant conditions, the judgement of a reading. -/

namespace Sys2Proof.Machine

/-- The load numbers in ascending order. -/
def allLoads : List LoadIx := [0, 1, 2, 3, 4, 5, 6, 7, 8, 9, 10, 11, 12, 13, 14, 15]

/-- The ladder numbers in ascending order. -/
def allLadders : List LadderIx := [0, 1, 2, 3]

/-- The watch numbers in ascending order. -/
def allWatches : List WatchIx := [0, 1, 2, 3, 4, 5, 6, 7, 8, 9, 10, 11, 12, 13, 14, 15]

/-! ### Timers -/

/-- Whether a timer runs. -/
def Timer.isRunning : Timer → Bool
  | .stopped => false
  | .running _ => true
  | .overdue => true

/-- The time left that replies show, in ms: 0 when the timer is not running (R199). -/
def Timer.left : Timer → Nat
  | .stopped => 0
  | .running left => left
  | .overdue => 0

/-- A timer after d ms. -/
def Timer.elapse (d : Nat) : Timer → Timer
  | .stopped => .stopped
  | .running left => if d ≤ left then .running (left - d) else .overdue
  | .overdue => .overdue

/-- d ms may pass before the timer expires: it expires no later than one millisecond after its stated time (R1). -/
def Timer.allows (d : Nat) : Timer → Bool
  | .stopped => true
  | .running left => decide (d ≤ left + 1)
  | .overdue => decide (d = 0)

/-- d ms may pass before a time that is exact is over: the 30 ms of start-up's second step (R192). -/
def Timer.allowsExact (d : Nat) : Timer → Bool
  | .stopped => true
  | .running left => decide (d ≤ left)
  | .overdue => decide (d = 0)

/-- Every timer of the part but the 30 ms of start-up (R1). -/
def State.timers (s : State) : List Timer :=
  allLoads.flatMap (fun n => [s.loads[n].settle, s.loads[n].backoff, s.loads[n].cleanRun, s.quals.pg[n].timer]) ++
    [s.seq.gap, s.sev.hold, s.scan.pause, s.link.interbyte, s.session.silence, s.quals.kill.timer, s.quals.shed.timer] ++
    (s.prof.save.map (·.timer)).toList

/-- d ms may pass at once: no running timer is then later than R1 allows (R1, R192; log 2). -/
def State.allows (d : Nat) (s : State) : Bool := s.timers.all (Timer.allows d) && s.startup.allowsExact d

/-! ### Load controller -/

/-- The loads whose EN is active: STARTING and ON (R4). -/
def LoadState.enabled : LoadState → Bool
  | .starting | .on => true
  | .off | .queued | .shed | .tripped | .locked => false

/-- Output ENn, true for active (R4). -/
def State.en (s : State) (n : LoadIx) : Bool := s.loads[n].state.enabled

/-- Cutoff[D]; cutoff[0] is taken as 8 (R5, R64). -/
def WorkingSet.cutoffAt (w : WorkingSet) (d : Nat) : Nat := if d = 0 then 8 else w.cutoff.toList.getD (d - 1) 8

/-- Load n is shed at depth d (R5). -/
def WorkingSet.shedAt (w : WorkingSet) (d : Nat) (n : LoadIx) : Bool :=
  decide (1 ≤ d) && decide (w.cutoffAt d ≤ w.loads[n].priority)

/-- Load n is shed at the present depth (R5). -/
def State.isShed (s : State) (n : LoadIx) : Bool := s.ws.shedAt s.sev.depth n

/-- The last current reading of load n: the latest value of channel In (R30). -/
def State.lastCurrent (s : State) (n : LoadIx) : Reading := s.scan.records[n.castLE (by decide : 16 ≤ 24)].latest

/-! ### Start sequencer -/

/-- All five conditions of R36 hold: the head of the queue is to be granted. -/
def State.grantDue (s : State) : Bool :=
  s.seq.slot.isNone && !s.seq.gap.isRunning && s.scan.primed && decide (s.sev.depth ≤ s.ws.globals.startCeiling) &&
    !s.seq.queue.isEmpty

/-! ### Severity unit -/

/-- What ladder k contributes to the depth: its level while it is enabled (R59). -/
def State.ladderContribution (s : State) (k : LadderIx) : Nat :=
  if s.ws.ladders[k].enabled then s.sev.ladders[k].level else 0

/-- What the shed input contributes (R57). -/
def State.shedContribution (s : State) : Nat := if s.sev.shedInput then s.ws.globals.shedInputLevel else 0

/-- The depth that the contributions form: the greatest of them (R59). -/
def State.formedDepth (s : State) : Nat :=
  max (max (max (s.ladderContribution 0) (s.ladderContribution 1))
    (max (s.ladderContribution 2) (s.ladderContribution 3))) (max s.shedContribution s.sev.hostFloor)

/-- The contributor of depth d: the first in the order of R60 whose contribution equals it, NONE at depth 0. -/
def State.contributorOf (s : State) (d : Nat) : Option Contributor :=
  if d = 0 then none
  else if s.ladderContribution 0 = d then some (.ladder 0)
  else if s.ladderContribution 1 = d then some (.ladder 1)
  else if s.ladderContribution 2 = d then some (.ladder 2)
  else if s.ladderContribution 3 = d then some (.ladder 3)
  else if s.shedContribution = d then some .shedInput
  else some .hostFloor

/-- The reading is beyond a threshold e (R50). -/
def Direction.beyond (d : Direction) (r e : Int) : Bool :=
  match d with
  | .rising => decide (e ≤ r)
  | .falling => decide (r ≤ e)

/-- The reading has cleared a threshold x (R50). -/
def Direction.cleared (d : Direction) (r x : Int) : Bool :=
  match d with
  | .rising => decide (r < x)
  | .falling => decide (x < r)

/-- The highest k from 1 to n for which p holds, or 0. -/
def highest (p : Nat → Bool) : Nat → Nat
  | 0 => 0
  | n + 1 => if p (n + 1) then n + 1 else highest p n

/-- U of R52 and R55: the highest level the reading is beyond; the fault level for an invalid reading. -/
def LadderConfig.upLevel (c : LadderConfig) : Reading → Nat
  | some r => highest (fun k => c.direction.beyond r (c.enterAt k)) c.top
  | none => c.fault

/-- The reading calls for a lower level than L: a valid one has cleared X_L (R53), an invalid one has its fault level below
L (R55). -/
def LadderConfig.callsDown (c : LadderConfig) (level : Nat) : Reading → Bool
  | some r => decide (1 ≤ level) && c.direction.cleared r (c.exitAt level)
  | none => decide (c.fault < level)

/-- D of R53 and R55: the highest level below L whose exit threshold the reading has not cleared; the fault level for an
invalid reading. -/
def LadderConfig.downLevel (c : LadderConfig) (level : Nat) : Reading → Nat
  | some r => highest (fun k => !c.direction.cleared r (c.exitAt k)) (level - 1)
  | none => c.fault

/-! ### Scanner -/

/-- The scaled and clamped value of a conversion (R78). -/
def ChannelConfig.scale (c : ChannelConfig) (raw : Nat) : Int :=
  max (-32767) (min 32767 (((raw * c.gain / 1024 : Nat) : Int) + c.offset))

/-- The validity of a conversion (R79). -/
def ChannelConfig.judge (c : ChannelConfig) (raw : Nat) : Bool :=
  !(c.faultDetect && (decide (raw ≤ 2) || decide (4093 ≤ raw)))

/-- The reading that a conversion gives (R78, R79). -/
def ChannelConfig.reading (c : ChannelConfig) (raw : Nat) : Reading := if c.judge raw then some (c.scale raw) else none

/-- The ladders that take a reading of channel c: the enabled ones whose source it is, in ascending order (R82, R83). -/
def WorkingSet.laddersOn (w : WorkingSet) (c : ChanIx) : List LadderIx :=
  allLadders.filter (fun k => w.ladders[k].enabled && decide (w.ladders[k].source = c))

/-- The watches that take a reading of channel c: the active ones that name it, in ascending order (R82, R83). -/
def WorkingSet.watchesOn (w : WorkingSet) (c : ChanIx) : List WatchIx :=
  allWatches.filter (fun i => decide (w.watches[i].mode ≠ .off) && decide (w.watches[i].channel = c))

/-! ### Watch unit -/

/-- The state a first reading puts a watch in (R92). -/
def WatchConfig.firstState (c : WatchConfig) : Reading → WatchState
  | none => .fault
  | some r => if c.high < r then .above else if r < c.low then .below else .inside

/-- The state a watch goes to on a reading (R92 to R94). -/
def WatchConfig.nextState (c : WatchConfig) (st : WatchState) (reading : Reading) : WatchState :=
  match reading, st with
  | none, _ => .fault
  | some r, .pending => c.firstState (some r)
  | some r, .fault => c.firstState (some r)
  | some r, .inside => if c.high < r then .above else if r < c.low then .below else .inside
  | some r, .above => if r < c.low then .below else if r ≤ c.high - c.hysteresis then .inside else .above
  | some r, .below => if c.high < r then .above else if c.low + c.hysteresis ≤ r then .inside else .below

/-- A change of state from here counts as a departure in LATCHED mode (R96). -/
def WatchState.isHome : WatchState → Bool
  | .pending | .inside => true
  | .above | .below | .fault => false

/-- The change posts a WATCH report (R95, R96). -/
def watchReports (mode : WatchMode) (latched : Bool) (old new : WatchState) : Bool :=
  match mode with
  | .off => false
  | .tracking => decide (old ≠ new) && !(decide (old = .pending) && decide (new = .inside))
  | .latched => decide (old ≠ new) && !latched && old.isHome && !new.isHome

/-! ### Report store -/

/-- The number of FREE record slots (R102). -/
def Store.free (st : Store) : Nat := 64 - st.records.length

/-- The number of SENT records (R102). -/
def Store.sentCount (st : Store) : Nat := (st.records.filter (·.sent)).length

/-- The number of POSTED records (R102). -/
def Store.postedCount (st : Store) : Nat := (st.records.filter (!·.sent)).length

/-- The store offers a record for sending (R113). -/
def Store.offers (st : Store) : Bool := decide (0 < st.credits) && st.records.any (!·.sent)

/-- Output ATTN_N, true for asserted, which is low (R122). -/
def State.attnAsserted (s : State) : Bool := s.store.records.any (!·.sent) && decide (s.store.credits = 0)

/-! ### Link interface and session unit -/

/-- The baud rate that the sampled straps give (R126). -/
def Straps.baud (p : Straps) : Nat :=
  match p.br1, p.br0 with
  | .low, .low => 19200
  | .low, .high => 57600
  | .high, .low => 115200
  | .high, .high => 230400

/-- A counter that stays at 65535 (R107, R137). -/
def bump (n : Nat) : Nat := min 65535 (n + 1)

/-- The session unit may take an entry of the inbound queue (R141). -/
def State.canTake (s : State) : Bool := s.session.taking && decide (s.link.replies.length < 2)

/-- The transmitter is IDLE (R135). -/
def Transmitter.isIdle : Transmitter → Bool
  | .idle => true
  | .reply _ | .report _ => false

/-! ### Input qualifiers -/

/-- The pin of an active-low input stands at its asserted level (R196). -/
def Qualifier.lowAsserted (q : Qualifier) : Bool := !PinLevel.isHigh q.pin

/-- The pin of an active-high input stands at its asserted level (R14). -/
def Qualifier.highAsserted (q : Qualifier) : Bool := PinLevel.isHigh q.pin

/-! ### Profile store -/

/-- The state of a slot as R183 judges it. -/
def NvSlot.judge : NvSlot → SlotKnown
  | .blank => .blank
  | .torn => .invalid
  | .written generation image => if image.ok then .valid generation else .invalid

/-- The slot state that PROFILE_LOADED names (R194). -/
def SlotKnown.state : SlotKnown → SlotState
  | .valid _ => .valid
  | .invalid => .invalid
  | .blank => .blank

/-- The slot the next save targets: the one that is not active, S0 when none is (R186, R194). -/
def nextTarget : Option SlotName → SlotName
  | some .s0 => .s1
  | some .s1 => .s0
  | none => .s0

end Sys2Proof.Machine
end

