-- ==== Sys2Proof/Machine/Ops.lean ====
section
/-! DEFINITION. The operations that the commands share, block by block: time, the report store, the transmitter, the loads and
their queue, the shed depth, the qualifiers, taking a request, and the reset that all three causes share. -/

namespace Sys2Proof.Machine

/-! ### Time (R1) -/

/-- The timers of a load record, d ms later. -/
def LoadRec.elapse (d : Nat) (r : LoadRec) : LoadRec :=
  { r with settle := r.settle.elapse d, backoff := r.backoff.elapse d, cleanRun := r.cleanRun.elapse d }

/-- A qualifier's qualification time, d ms later. -/
def Qualifier.elapse (d : Nat) (q : Qualifier) : Qualifier := { q with timer := q.timer.elapse d }

/-- A save's time, d ms later. -/
def Save.elapse (d : Nat) (v : Save) : Save := { v with timer := v.timer.elapse d }

/-- The time base and every timer of the part run: from the end of a reset on (R190, R191). -/
def Phase.timeRuns : Phase → Bool
  | .unpowered | .held => false
  | .selecting | .running => true

/-- d ms pass: the time base counts them and every running timer's time left falls by them; one that they pass is overdue
(R1; logs 1 and 2). While a reset is held no time passes (R190). -/
def State.elapse (d : Nat) (s : State) : State :=
  if s.phase.timeRuns then
    { s with
      timeBase := s.timeBase + BitVec.ofNat 32 d
      startup := s.startup.elapse d
      loads := s.loads.map (LoadRec.elapse d)
      seq := { s.seq with gap := s.seq.gap.elapse d }
      sev := { s.sev with hold := s.sev.hold.elapse d }
      scan := { s.scan with pause := s.scan.pause.elapse d }
      link := { s.link with interbyte := s.link.interbyte.elapse d }
      session := { s.session with silence := s.session.silence.elapse d }
      prof := { s.prof with save := s.prof.save.map (Save.elapse d) }
      quals :=
        { kill := s.quals.kill.elapse d, shed := s.quals.shed.elapse d, pg := s.quals.pg.map (Qualifier.elapse d) } }
  else s

/-! ### The report store (chapter 6) -/

/-- The records of one report, in order, from this sequence number on: the first one marked FIRST, the last one LAST (R103,
R106). -/
def reportRecords (time : DWord) : Bool → Word → List Payload → List Record
  | _, _, [] => []
  | isFirst, number, [p] =>
    [{ number := number, first := isFirst, last := true, resent := false, timestamp := time, payload := p, sent := false }]
  | isFirst, number, p :: q :: rest =>
    { number := number, first := isFirst, last := false, resent := false, timestamp := time, payload := p, sent := false } ::
      reportRecords time false (number + 1) (q :: rest)

/-- A report placed in the store: the newest records of the run, POSTED (R106, R107). -/
def Store.append (time : DWord) (ps : List Payload) (st : Store) : Store :=
  { st with
    records := st.records ++ reportRecords time true st.counter ps
    counter := st.counter + BitVec.ofNat 16 ps.length }

/-- R109: a lost count above 0 that meets a FREE slot becomes a LOSS report. -/
def Store.settleLoss (time : DWord) (st : Store) : Store :=
  if 0 < st.lost ∧ 0 < st.free then { st.append time [.loss st.lost] with lost := 0 } else st

/-- R107: the report is posted whole or dropped whole, and a drop is counted. -/
def Store.post (time : DWord) (ps : List Payload) (st : Store) : Store :=
  if st.lost = 0 ∧ ps.length ≤ st.free then st.append time ps
  else Store.settleLoss time { st with lost := bump st.lost }

/-- The record leaves SENT for POSTED, marked RESENT (R114, R118). -/
def Record.requeue (r : Record) : Record := if r.sent then { r with sent := false, resent := true } else r

/-- Every SENT record returns to POSTED (R118). -/
def Store.requeue (st : Store) : Store := { st with records := st.records.map Record.requeue }

/-- The oldest POSTED record becomes SENT. -/
def sendOldest : List Record → List Record
  | [] => []
  | r :: rest => if r.sent then r :: sendOldest rest else { r with sent := true } :: rest

/-- The number of records in the longest front part that ends in a record marked LAST: whole reports only (R117). -/
def wholeReports (rs : List Record) : Nat := (rs.reverse.dropWhile (fun r => !r.last)).length

/-- The records from the oldest up to and including the SENT one of this number; nothing if there is none (R116, R117). -/
def upToNumber (number : Word) : List Record → Option (List Record)
  | [] => none
  | r :: rest =>
    if r.sent ∧ r.number = number then some [r]
    else
      match upToNumber number rest with
      | some rs => some (r :: rs)
      | none => none

/-- The number of records that an ACK of this number frees, if it is accepted (R116, R117). -/
def Store.ackCount (number : Word) (st : Store) : Option Nat :=
  match upToNumber number st.records with
  | some rs => some (wholeReports rs)
  | none => none

/-- The oldest n records become FREE, and R109 is applied when any did. -/
def Store.freeOldest (time : DWord) (n : Nat) (st : Store) : Store :=
  if n = 0 then st else Store.settleLoss time { st with records := st.records.drop n }

/-- Post one report at its event, with the time base's count (R107, R108). -/
def State.post (ps : List Payload) (s : State) : State := { s with store := s.store.post s.timeBase ps }

/-! ### The transmitter (R113, R135, R136) -/

/-- Start the report frame of the oldest POSTED record: it becomes SENT and spends one credit (R113). -/
def State.startReport (s : State) : State :=
  match s.store.records.find? (fun r => !r.sent) with
  | some r =>
    { s with
      link := { s.link with tx := .report (reportFrame r) }
      store := { s.store with records := sendOldest s.store.records, credits := s.store.credits - 1 } }
  | none => s

/-- The transmitter's choice at each event that may start a frame (R135): while IDLE, the oldest reply, otherwise an offered
record, otherwise nothing. -/
def State.kick (s : State) : State :=
  if s.link.tx.isIdle then
    match s.link.replies with
    | r :: rest => { s with link := { s.link with tx := .reply r, replies := rest } }
    | [] => if s.store.offers then s.startReport else s
  else s

/-- A request that has taken its effect may meet an IDLE transmitter with an offer its effect brought, before its reply is
queued. R136 leaves open which is taken first; the free choice says, and each such meeting is counted (log 7). -/
def State.offerBeforeReply (s : State) : State :=
  if s.link.tx.isIdle && s.link.replies.isEmpty && s.store.offers then
    if Config.offerTakenFirst s.choices then { s.startReport with choices := s.choices + 1 }
    else { s with choices := s.choices + 1 }
  else s

/-- The moment at which a timer with this much time left expires: its stated time has fully passed. The free choice says whether
the one millisecond more that R1 allows has passed too; it does not pass where it would make another timer too late (log 2). -/
def State.reachExpiry (left : Nat) (s : State) : State :=
  { s.elapse (left + (Config.expiresLate s.choices && s.allows (left + 1)).toNat) with choices := s.choices + 1 }

/-- An expiry: the moment of the timer is reached, the event takes place, and the transmitter takes what it offers (R1). A timer
that is not running does not expire, and none expires while another must expire before it (R1; log 3). -/
def State.whenDue (t : Timer) (event : State → State) (s : State) : State :=
  if t.isRunning && s.allows t.left then (event (s.reachExpiry t.left)).kick else s

/-! ### The start sequencer (chapter 2) -/

/-- A joining entry stands behind every entry of lower or equal priority value (R33). -/
def joinQueue (e : QueueEntry) (q : List QueueEntry) : List QueueEntry :=
  q.takeWhile (fun x => decide (x.priority ≤ e.priority)) ++ e :: q.dropWhile (fun x => decide (x.priority ≤ e.priority))

/-- A load joins the queue with the next entry number (R32, R33). -/
def Sequencer.join (n : LoadIx) (priority : Nat) (q : Sequencer) : Sequencer :=
  { q with
    queue := joinQueue { load := n, priority := priority, number := q.counter } q.queue
    counter := q.counter + 1 }

/-- A load leaves the queue; the others close up (R34, R38). -/
def Sequencer.leave (n : LoadIx) (q : Sequencer) : Sequencer :=
  { q with queue := q.queue.filter (fun e => decide (e.load ≠ n)) }

/-- The start slot is released and the gap timer starts; a gap of 0 starts none (R40, R42). -/
def Sequencer.release (gapSteps : Nat) (q : Sequencer) : Sequencer :=
  { q with slot := none, gap := if gapSteps = 0 then q.gap else .running (gapSteps * 10) }

/-! ### Load records (chapter 1) -/

/-- Replace the record of load n. -/
def State.setLoad (n : LoadIx) (r : LoadRec) (s : State) : State := { s with loads := s.loads.set n r }

/-- What a record loses when its load leaves its state (R9, R10, R12, R16, R19, R24): the entry number of QUEUED, the settle
timer and streaks of STARTING, the clean-run timer and streaks of ON. -/
def LoadRec.leave (r : LoadRec) : LoadRec :=
  match r.state with
  | .queued => { r with entry := none }
  | .starting => { r with settle := .stopped, overStreak := 0, senseStreak := 0 }
  | .on => { r with cleanRun := .stopped, overStreak := 0, senseStreak := 0 }
  | .off | .shed | .tripped | .locked => r

/-- What a record gains when its load enters a state: the entry number of QUEUED (R32), the settle timer and cleared streaks
of STARTING (R10), the clean-run timer of ON (R12), the backoff timer of TRIPPED (R19). -/
def LoadRec.enter (c : LoadConfig) (cleanRun : Nat) (number : Word) (new : LoadState) (r : LoadRec) : LoadRec :=
  match new with
  | .queued => { r with state := new, entry := some number }
  | .starting => { r with state := new, settle := .running (c.settle * 10), overStreak := 0, senseStreak := 0 }
  | .on => { r with state := new, cleanRun := .running (cleanRun * 1000) }
  | .tripped => { r with state := new, backoff := .running (c.backoff * 1000) }
  | .off | .shed | .locked => { r with state := new }

/-- What the sequencer loses when load n leaves a state: its entry (R34, R38) or the start slot (R40). -/
def Sequencer.onLeave (n : LoadIx) (gapSteps : Nat) (old : LoadState) (q : Sequencer) : Sequencer :=
  match old with
  | .queued => q.leave n
  | .starting => q.release gapSteps
  | .off | .on | .shed | .tripped | .locked => q

/-- What the sequencer gains when load n enters a state: its entry (R32) or the holder of the start slot (R35). -/
def Sequencer.onEnter (n : LoadIx) (priority : Nat) (new : LoadState) (q : Sequencer) : Sequencer :=
  match new with
  | .queued => q.join n priority
  | .starting => { q with slot := some n }
  | .off | .on | .shed | .tripped | .locked => q

/-- The sequencer as a change of load n's state leaves it. -/
def State.movedSeq (n : LoadIx) (new : LoadState) (s : State) : Sequencer :=
  (s.seq.onLeave n s.ws.globals.startGap s.loads[n].state).onEnter n s.ws.loads[n].priority new

/-- The record of load n as a change of its state leaves it. -/
def State.movedLoad (n : LoadIx) (new : LoadState) (s : State) : LoadRec :=
  LoadRec.enter s.ws.loads[n] s.ws.globals.cleanRun s.seq.counter new s.loads[n].leave

/-- The LOAD_STATE report of a change of load n's state (R30). -/
def State.movedReport (n : LoadIx) (new : LoadState) (cause : Cause) (s : State) : Payload :=
  .loadState n s.loads[n].state new cause s.loads[n].retries (s.lastCurrent n)

/-- Load n changes state: its record, the start queue and the start slot follow, and one LOAD_STATE report is posted (R4, R30,
R32, R34, R40). -/
def State.moveLoad (n : LoadIx) (new : LoadState) (cause : Cause) (s : State) : State :=
  State.post [s.movedReport n new cause]
    { s with loads := s.loads.set n (s.movedLoad n new), seq := s.movedSeq n new }

/-- Write the demand of load n. -/
def State.setDemand (n : LoadIx) (on : Bool) (s : State) : State := s.setLoad n { s.loads[n] with demand := on }

/-- Demand OFF (R9): recorded in every state; a load in QUEUED, STARTING, ON or SHED goes to OFF. -/
def State.demandOff (cause : Cause) (n : LoadIx) (s : State) : State :=
  match s.loads[n].state with
  | .queued | .starting | .on | .shed => (s.setDemand n false).moveLoad n .off cause
  | .off | .tripped | .locked => s.setDemand n false

/-- Demand ON (R6, R7, R8). Refused, with no effect, for an unfitted or LOCKED load and while KILL is qualified-asserted. -/
def State.demandOn (cause : Cause) (n : LoadIx) (s : State) : State :=
  if s.quals.kill.qualified || !s.ws.loads[n].fitted then s
  else
    match s.loads[n].state with
    | .off => (s.setDemand n true).moveLoad n (if s.isShed n then .shed else .queued) cause
    | .tripped => s.setDemand n true
    | .queued | .starting | .on | .shed | .locked => s

/-- The load becomes shed (R24). -/
def State.shedLoad (n : LoadIx) (s : State) : State :=
  match s.loads[n].state with
  | .queued | .starting | .on => s.moveLoad n .shed .shed
  | .off | .shed | .tripped | .locked => s

/-- A load in SHED that is not shed at the present depth goes to QUEUED (R25). -/
def State.restoreLoad (n : LoadIx) (s : State) : State :=
  if s.loads[n].state = .shed ∧ s.isShed n = false then s.moveLoad n .queued .restore else s

/-- A trip, whatever its cause (R19). -/
def State.trip (cause : TripCause) (n : LoadIx) (s : State) : State :=
  let r := s.loads[n]
  State.moveLoad n (if s.ws.loads[n].budget < r.retries + 1 then .locked else .tripped) (.trip cause)
    (s.setLoad n { r with retries := r.retries + 1, tripCause := some cause })

/-- The orphan action of load n (R27). -/
def State.orphanAction (n : LoadIx) (s : State) : State :=
  if s.ws.loads[n].fitted then
    match s.ws.loads[n].orphan with
    | .keep => s
    | .off => s.demandOff .orphan n
    | .on => s.demandOn .orphan n
  else s

/-- Autostart of load n (R28). -/
def State.autostartLoad (n : LoadIx) (s : State) : State :=
  if s.ws.loads[n].autostart then s.demandOn .autostart n else s

/-! ### The grant (R10, R36 to R38) -/

/-- The grant to the head of the queue: it leaves the queue, holds the start slot and goes to STARTING, with its LOAD_STATE
report (R10, R38). -/
def State.grantHead (e : QueueEntry) (rest : List QueueEntry) (s : State) : State :=
  let r := s.loads[e.load]
  State.post [.loadState e.load .queued .starting .grant r.retries (s.lastCurrent e.load)]
    { s with
      loads := s.loads.set e.load
        (LoadRec.enter s.ws.loads[e.load] s.ws.globals.cleanRun s.seq.counter .starting { r with entry := none })
      seq := { s.seq with queue := rest, slot := some e.load } }

/-- The sequencer considers a grant: where all five conditions hold it is made (R36, R37). -/
def State.considerGrant (s : State) : State :=
  match s.seq.queue with
  | [] => s
  | e :: rest => if s.grantDue then s.grantHead e rest else s

/-- A grant that is due is made, and the transmitter takes what it offers. The one consideration that leaves its grant to this is
that of the reading which sets the priming flag, because a shed by the same reading may be taken before it (R84; log 5). No
request is taken, no time passes and no conversion ends before it (2-7). -/
def State.takeGrant (s : State) : State := if s.grantDue then s.considerGrant.kick else s

/-! ### Several loads at once -/

/-- Apply an operation to these loads, in this order. -/
def State.eachLoad (ns : List LoadIx) (op : LoadIx → State → State) (s : State) : State :=
  ns.foldl (fun t n => op n t) s

/-- KILL becomes asserted: the demand of every load is set OFF (R26). -/
def State.killLoads (s : State) : State := s.eachLoad allLoads (State.demandOff .kill)

/-! ### Readings at a load (R11, R13, R18, R20) -/

/-- A valid reading r of In in STARTING or ON, against the limit of the state (R11, R13). -/
def State.judgeCurrent (n : LoadIx) (limit : Nat) (cause : TripCause) (r : Int) (s : State) : State :=
  let old := s.loads[n]
  if limit = 0 then s.setLoad n { old with senseStreak := 0 }
  else if (limit : Int) < r then
    let t := s.setLoad n { old with senseStreak := 0, overStreak := old.overStreak + 1 }
    if s.ws.loads[n].confirm ≤ old.overStreak + 1 then t.trip cause n else t
  else s.setLoad n { old with senseStreak := 0, overStreak := 0 }

/-- An invalid reading of In in STARTING or ON: the eighth in a row trips the load (R18). -/
def State.countSenseFault (n : LoadIx) (s : State) : State :=
  let old := s.loads[n]
  let t := s.setLoad n { old with senseStreak := old.senseStreak + 1 }
  if 8 ≤ old.senseStreak + 1 then t.trip .senseFault n else t

/-- A reading of In at load n; ignored out of STARTING and ON (R20). A trip in STARTING releases the start slot, and the sequencer
considers a grant (R37). -/
def State.loadTakes (n : LoadIx) (reading : Reading) (s : State) : State :=
  match s.loads[n].state, reading with
  | .starting, some r => (s.judgeCurrent n s.ws.loads[n].inrush .inrush r).considerGrant
  | .on, some r => s.judgeCurrent n s.ws.loads[n].runLimit .overcurrent r
  | .starting, none => (s.countSenseFault n).considerGrant
  | .on, none => s.countSenseFault n
  | .off, _ | .queued, _ | .shed, _ | .tripped, _ | .locked, _ => s

/-! ### The shed depth (R59 to R62) -/

/-- The loads shed under one working set and depth and not under another, in ascending order (R61, R65). -/
def newlyShed (oldWs : WorkingSet) (oldDepth : Nat) (newWs : WorkingSet) (newDepth : Nat) : List LoadIx :=
  allLoads.filter (fun n => newWs.shedAt newDepth n && !oldWs.shedAt oldDepth n)

/-- The depth is formed anew, with its contributor (R59, R60). On a rise the restore hold is cancelled and the loads newly shed
are named (R61); on a fall the restore hold is started or restarted (R62). -/
def State.formDepth (s : State) : State :=
  let d := s.formedDepth
  let c := s.contributorOf d
  if d = s.sev.depth then { s with sev := { s.sev with contributor := c } }
  else
    let hold : Timer := if s.sev.depth < d then .stopped else .running (s.ws.globals.restoreHold * 1000)
    let t := State.post [.depth s.sev.depth d c] { s with sev := { s.sev with depth := d, contributor := c, hold := hold } }
    if s.sev.depth < d then t.eachLoad (newlyShed s.ws s.sev.depth s.ws d) State.shedLoad else t

/-- Replace the dynamic fields of ladder k. -/
def State.setLadderRec (k : LadderIx) (r : Ladder) (s : State) : State :=
  { s with sev := { s.sev with ladders := s.sev.ladders.set k r } }

/-- Ladder k goes to a level; a change posts one LEVEL report (R56). `r` holds the ladder's other fields. -/
def State.changeLevel (k : LadderIx) (level : Nat) (reading : Reading) (r : Ladder) (s : State) : State :=
  State.post [.level k s.sev.ladders[k].level level s.ws.ladders[k].source reading]
    (s.setLadderRec k { r with level := level })

/-- A ladder evaluates a reading (R51 to R55). -/
def State.evaluateLadder (k : LadderIx) (reading : Reading) (s : State) : State :=
  let c := s.ws.ladders[k]
  let old := s.sev.ladders[k]
  if old.level < c.upLevel reading then
    if c.confirm ≤ old.up + 1 then
      s.changeLevel k (c.upLevel reading) reading { old with up := 0, down := 0, last := reading }
    else s.setLadderRec k { old with up := old.up + 1, down := 0, last := reading }
  else if c.callsDown old.level reading then
    if c.confirm ≤ old.down + 1 then
      s.changeLevel k (c.downLevel old.level reading) reading { old with up := 0, down := 0, last := reading }
    else s.setLadderRec k { old with up := 0, down := old.down + 1, last := reading }
  else s.setLadderRec k { old with up := 0, down := 0, last := reading }

/-- A reading at ladder k, which takes it if it was bound to the reading's channel when it arrived and still is (R51, R83). -/
def State.ladderTakes (d : Delivery (List LadderIx)) (k : LadderIx) (s : State) : State :=
  if k ∈ d.bound ∧ s.ws.ladders[k].enabled = true ∧ s.ws.ladders[k].source = d.channel then s.evaluateLadder k d.reading
  else s

/-- The qualified SHED state reaches the severity unit (R57, R198): the SHED_INPUT report, then the depth. -/
def State.handShed (asserted : Bool) (s : State) : State :=
  let t := s.post [.shedInput asserted s.ws.globals.shedInputLevel]
  State.formDepth { t with sev := { t.sev with shedInput := asserted } }

/-- The qualified KILL state is handed on (R197): the KILL report, then the demands on an assertion. -/
def State.handKill (asserted : Bool) (s : State) : State :=
  let t := s.post [.kill asserted]
  if asserted then t.killLoads else t

/-! ### The watch unit (chapter 5) -/

/-- Watch w takes a reading of its channel (R91 to R96, R98). Its report carries the time base count of this moment, the arrival
of the reading at the watch: DESIGN CHOICE, unsafe (log 6). R98 says 'the arrival of the reading', which is the conversion's end
in R76 and the arrival at the watch in R82 and R101; the two counts differ only where time passes between the two commands. -/
def State.evaluateWatch (w : WatchIx) (reading : Reading) (s : State) : State :=
  let c := s.ws.watches[w]
  let old := s.watches[w]
  let new := c.nextState old.state reading
  let reports := watchReports c.mode old.latched old.state new
  let r : WatchRec :=
    { state := new, latched := old.latched || (reports && decide (c.mode = .latched)), last := reading }
  let t : State := { s with watches := s.watches.set w r }
  if reports then t.post [.watch w c.channel c.mode old.state new reading c.low c.high] else t

/-- A reading at watch w, which takes it if it was bound to the reading's channel when it arrived and still is (R83, R91,
R100). -/
def State.watchTakes (d : Delivery (List WatchIx)) (w : WatchIx) (s : State) : State :=
  if w ∈ d.bound ∧ s.ws.watches[w].mode ≠ .off ∧ s.ws.watches[w].channel = d.channel then s.evaluateWatch w d.reading
  else s

/-! ### The scanner (chapter 4) -/

/-- The conversion of entry i begins (R76). An entry the list does not have leaves the scanner STOPPED; the checks of R85 keep
entry 0 in every list. -/
def Scanner.begin (list : List ChanIx) (i : Nat) (c : Scanner) : Scanner :=
  match list[i]? with
  | some ch => { c with state := .converting ch false, cursor := i }
  | none => { c with state := .stopped, cursor := 0 }

/-- What follows the end of a conversion (R76, R86): the next entry; or entry 0, after the pause if there is one; or, where SET
SCAN asked for it, entry 0 at once. -/
def Scanner.next (list : List ChanIx) (pause : Nat) (restart : Bool) (c : Scanner) : Scanner :=
  if restart then c.begin list 0
  else if c.cursor + 1 < list.length then c.begin list (c.cursor + 1)
  else if pause = 0 then c.begin list 0
  else { c with state := .paused, cursor := 0, pause := .running pause }

/-- The priming check (R84): set once every channel of the list has been read since reset. -/
def Scanner.checkPriming (list : List ChanIx) (c : Scanner) : Scanner :=
  { c with primed := c.primed || list.all (fun ch => c.records[ch].read) }

/-- The reading is handed on to the destinations bound to its channel now: the ladders, the watches, and for channels 0 to 15 the
load (R82, R83). -/
def Scanner.deliver (w : WorkingSet) (ch : ChanIx) (reading : Reading) (c : Scanner) : Scanner :=
  let ladders := w.laddersOn ch
  let watches := w.watchesOn ch
  { c with
    toLadders :=
      if ladders = [] then c.toLadders else c.toLadders ++ [{ channel := ch, reading := reading, bound := ladders }]
    toWatches :=
      if watches = [] then c.toWatches else c.toWatches ++ [{ channel := ch, reading := reading, bound := watches }]
    toLoads :=
      match load? ch.val with
      | some n => c.toLoads ++ [{ channel := ch, reading := reading, bound := n }]
      | none => c.toLoads }

/-- Ladder k takes no reading that has arrived already (R70, R83). -/
def Scanner.unbindLadder (k : LadderIx) (c : Scanner) : Scanner :=
  { c with toLadders := c.toLadders.map (fun d => { d with bound := d.bound.filter (fun i => decide (i ≠ k)) }) }

/-- Watch w takes no reading that has arrived already (R83, R100). -/
def Scanner.unbindWatch (w : WatchIx) (c : Scanner) : Scanner :=
  { c with toWatches := c.toWatches.map (fun d => { d with bound := d.bound.filter (fun i => decide (i ≠ w)) }) }

/-- The record of a channel after a conversion (R74, R81). -/
def channelRecord (c : ChannelConfig) (raw : Nat) (time : DWord) : ChannelRec :=
  { latest := c.reading raw, valid := c.judge raw, read := true, raw := raw, timestamp := time }

/-- The SENSOR report of a change of validity (R80). -/
def State.sensorReport (ch : ChanIx) (raw : Nat) (s : State) : State :=
  let c := s.ws.channels[ch]
  if c.judge raw = s.scan.records[ch].valid then s else s.post [.sensor ch (c.judge raw) raw (c.reading raw)]

/-- A reading of channel ch arrives (R81, R84, R82, R76). -/
def State.readingArrives (ch : ChanIx) (restart : Bool) (raw : Nat) (s : State) : State :=
  let c := s.ws.channels[ch]
  let t := s.sensorReport ch raw
  { t with
    scan :=
      (((({ t.scan with records := t.scan.records.set ch (channelRecord c raw s.timeBase) }).checkPriming
        s.ws.scanList).deliver s.ws ch (c.reading raw)).next s.ws.scanList s.ws.cyclePause restart) }

/-! ### The receive framer (R128 to R132) -/

/-- Put the framer in this state; its interbyte timer runs from now while a frame is open (R129). -/
def State.setFramer (f : Framer) (s : State) : State :=
  { s with
    link := { s.link with framer := f, interbyte := if f = .hunt then .stopped else .running 3 } }

/-- Raise link counters (R137). -/
def State.countLink (f : LinkStats → LinkStats) (s : State) : State :=
  { s with link := { s.link with stats := f s.link.stats } }

/-- Start or restart the silence timer, or cancel it where the timeout is 0 (R147). -/
def State.restartSilence (s : State) : State :=
  { s with
    session :=
      { s.session with
        silence := if s.ws.globals.silenceTimeout = 0 then .stopped else .running (s.ws.globals.silenceTimeout * 1000) } }

/-- Notice of a good frame (R131, R147, R149): in UP it restarts the silence timer, in LOST it posts HOST_RETURNED and brings
the session back to UP, in DOWN it changes nothing. -/
def State.noticeGoodFrame (kind tag : Byte) (s : State) : State :=
  match s.session.state with
  | .down => s
  | .up => if s.ws.globals.silenceTimeout = 0 then s else s.restartSilence
  | .lost =>
    let t := s.post [.hostReturned kind tag]
    State.restartSilence { t with session := { t.session with state := .up } }

/-- A good frame is judged for the inbound queue (R132). -/
def State.queueInbound (f : Frame) (s : State) : State :=
  if s.link.inbound.length < 2 then
    State.countLink (fun c => { c with accepted := bump c.accepted })
      { s with link := { s.link with inbound := s.link.inbound ++ [f] } }
  else s.countLink (fun c => { c with dropped := bump c.dropped })

/-- The second CRC byte arrives: the frame is good or discarded (R131). -/
def State.closeFrame (f : Frame) (s : State) : State :=
  let t := s.setFramer .hunt
  if frameCrc f.kind f.tag f.body = f.crc then (t.noticeGoodFrame f.kind f.tag).queueInbound f
  else t.countLink (fun c => { c with crc := bump c.crc })

/-- A byte without a stop-bit error, by the framer's state (R128). -/
def State.frameByte (b : Byte) (s : State) : State :=
  match s.link.framer with
  | .hunt => if b = 0xC3#8 then s.setFramer .length else s
  | .length =>
    if b.toNat ≤ 96 then s.setFramer (.header b.toNat none)
    else (s.setFramer .hunt).countLink (fun c => { c with length := bump c.length })
  | .header len none => s.setFramer (.header len (some b))
  | .header len (some kind) =>
    s.setFramer (if len = 0 then .check kind b [] none else .body len kind b [])
  | .body len kind tag bytes =>
    s.setFramer
      (if bytes.length + 1 < len then .body len kind tag (bytes ++ [b]) else .check kind tag (bytes ++ [b]) none)
  | .check kind tag bytes none => s.setFramer (.check kind tag bytes (some b))
  | .check kind tag bytes (some low) =>
    s.closeFrame { kind := kind, tag := tag, body := bytes, crc := b ++ low }

/-! ### Input qualifiers (R14, R196) -/

/-- A qualifier begins: its time runs if the pin differs from the qualified state (R191). -/
def Qualifier.start (asserted : Bool) (time : Nat) (q : Qualifier) : Qualifier :=
  { q with timer := if asserted = q.qualified then .stopped else .running time }

/-- The pin has a new level; while the qualifiers run, the qualification time starts or is abandoned. -/
def Qualifier.pinTo (runs : Bool) (activeHigh : Bool) (time : Nat) (level : PinLevel) (q : Qualifier) : Qualifier :=
  if level = q.pin then q
  else
    let t : Qualifier := { q with pin := level }
    if runs then t.start (PinLevel.isHigh level == activeHigh) time else t

/-- The qualification time has passed: the qualified state becomes the pin's. -/
def Qualifier.adopt (asserted : Bool) (q : Qualifier) : Qualifier := { q with qualified := asserted, timer := .stopped }

/-! ### Resets (R190) -/

/-- A qualifier after reset: qualified deasserted, no time running; the pin stays where the outside holds it (R14, R196). -/
def Qualifier.afterReset (q : Qualifier) : Qualifier := { q with qualified := false, timer := .stopped }

/-- The profile store from the moment a reset is taken (R184, R189): the nonvolatile slots stay, a save in flight ends without
its verify, and what the profile selection sets is not known (log 11). The strap levels that the last run sampled stand until
the next sampling, of which R126 and R191 say nothing: DESIGN CHOICE, unsafe (log 10). -/
def Profile.afterReset (p : Profile) : Profile :=
  { p with known0 := none, known1 := none, active := none, generation := 0, dirty := false, save := none }

/-- Every block takes its reset values (R3, R31, R47, R49, R74, R76, R84, R90, R123, R138, R139, R184). The working set stands
until start-up replaces it (R182, R193; log 9). -/
def State.takeReset (phase : Phase) (cause : ResetCause) (s : State) : State :=
  { s with
    phase := phase
    timeBase := 0
    startup := .stopped
    loads := Vector.replicate 16 LoadRec.reset
    seq := Sequencer.reset
    sev := Severity.reset
    scan := Scanner.reset
    watches := Vector.replicate 16 WatchRec.reset
    store := Store.reset
    link := Link.reset
    session := Session.reset cause
    prof := s.prof.afterReset
    quals :=
      { kill := s.quals.kill.afterReset, shed := s.quals.shed.afterReset, pg := s.quals.pg.map Qualifier.afterReset } }

/-! ### The profile store (chapter 10) -/

/-- A nonvolatile slot by name. -/
def Profile.slot (p : Profile) : SlotName → NvSlot
  | .s0 => p.slot0
  | .s1 => p.slot1

/-- What is known of a slot; INVALID stands for a slot not yet judged, which nothing asks for before the selection. -/
def Profile.known (p : Profile) : SlotName → SlotKnown
  | .s0 => p.known0.getD .invalid
  | .s1 => p.known1.getD .invalid

/-- Replace the contents of a slot and what is known of it. -/
def Profile.setSlot (n : SlotName) (c : NvSlot) (k : SlotKnown) (p : Profile) : Profile :=
  match n with
  | .s0 => { p with slot0 := c, known0 := some k }
  | .s1 => { p with slot1 := c, known1 := some k }

/-- The selection of the profile from the two judged slots (R192). -/
def selectSlot : SlotKnown → SlotKnown → Option SlotName
  | .valid g0, .valid g1 => if g0.toNat < g1.toNat then some .s1 else some .s0
  | .valid _, .invalid => some .s0
  | .valid _, .blank => some .s0
  | .invalid, .valid _ => some .s1
  | .blank, .valid _ => some .s1
  | .invalid, .invalid | .invalid, .blank | .blank, .invalid | .blank, .blank => none

/-- The generation of a judged slot; 0 where it is not VALID (R192). -/
def SlotKnown.generation : SlotKnown → DWord
  | .valid g => g
  | .invalid => 0
  | .blank => 0

/-- The image loaded from a slot; factory defaults where there is none (R193). -/
def Profile.imageOf (p : Profile) : Option SlotName → WorkingSet
  | none => WorkingSet.factory
  | some n =>
    match p.slot n with
    | .written _ image => image
    | .blank => WorkingSet.factory
    | .torn => WorkingSet.factory

/-- Steps 2 and 3 of start-up (R192, R193): both slots are judged, one is selected, the working set is loaded whole, and the
dirty flag is clear. -/
def State.selectProfile (s : State) : State :=
  let k0 := s.prof.slot0.judge
  let k1 := s.prof.slot1.judge
  let chosen := selectSlot k0 k1
  let gen : DWord := match chosen with
    | none => 0
    | some .s0 => k0.generation
    | some .s1 => k1.generation
  { s with
    startup := .stopped
    ws := s.prof.imageOf chosen
    prof := { s.prof with known0 := some k0, known1 := some k1, active := chosen, generation := gen, dirty := false } }

/-- The report RESET of step 4 (R194). -/
def State.resetReport (s : State) : Payload := .reset s.session.cause s.prof.straps

/-- The report PROFILE_LOADED of step 4 (R194). -/
def State.profileLoadedReport (s : State) : Payload :=
  .profileLoaded s.prof.active s.prof.generation (nextTarget s.prof.active) (s.prof.known (nextTarget s.prof.active)).state

/-- Step 4 of start-up (R194): RESET, PROFILE_LOADED, then each asserted qualified state, KILL first. From here on the
qualifiers hand on each change. -/
def State.startupReports (s : State) : State :=
  let t := (s.post [s.resetReport]).post [s.profileLoadedReport]
  let t := if s.quals.kill.qualified then t.handKill true else t
  if s.quals.shed.qualified then t.handShed true else t

/-- Steps 5 and 6 of start-up (R195): the scanner begins, autostart is applied, after which the sequencer considers a grant
(R37), and taking opens. -/
def State.startRunning (asInh : PinLevel) (s : State) : State :=
  let t : State := { s with scan := s.scan.begin s.ws.scanList 0 }
  let u := if asInh = .high ∧ t.quals.kill.qualified = false then t.eachLoad allLoads State.autostartLoad else t
  let v := u.considerGrant
  { v with phase := .running, session := { v.session with taking := true } }

/-! ### Taking a request (R141 to R144, R151, R152) -/

/-- What the owning block answers a request: the state its effect leaves, the reply body, and whether the reply's end resets
the part (R154). -/
structure Answer where
  state : State
  body : List Byte
  resets : Bool := false

/-- A request that fails a check leaves every block as it was; its reply carries the status alone (R144). -/
def Answer.refuse (st : Status) (s : State) : Answer := { state := s, body := st.bytes }

/-- A request that passes: its effect and the fields of its OK reply (R144). -/
def Answer.ok (s : State) (fields : List Byte) : Answer := { state := s, body := Status.ok.bytes ++ fields }

/-- A reply is queued at the tail of the reply queue (R134). -/
def State.queueReply (frame : Frame) (resets : Bool) (s : State) : State :=
  { s with link := { s.link with replies := s.link.replies ++ [{ frame := frame, resets := resets }] } }

/-- The cache with the reply of an executed request written last (R152): it replaces the entry of its tag if there is one,
otherwise, of 4 entries, the one written longest ago. -/
def writeCache (e : CacheEntry) (cache : List CacheEntry) : List CacheEntry :=
  let others := cache.filter (fun x => decide (x.tag ≠ e.tag))
  (if others.length < 4 then others else others.drop 1) ++ [e]

/-- The entry that makes a request a repeat: tag and received CRC both match (R152). -/
def findRepeat (f : Frame) (cache : List CacheEntry) : Option CacheEntry :=
  cache.find? (fun e => decide (e.tag = f.tag) && decide (e.crc = f.crc))

/-- The oldest entry leaves the inbound queue at the taking (R132). -/
def State.dropInbound (s : State) : State := { s with link := { s.link with inbound := s.link.inbound.tail } }

/-- The frame that a request row takes: the oldest entry of the inbound queue, if the session unit may take (R141) and the
frame is of the row's kind. -/
def State.takes (isKind : Byte → Bool) (s : State) : Option Frame :=
  match s.link.inbound with
  | [] => none
  | f :: _ => if s.canTake && isKind f.kind then some f else none

/-- Step 5 of R142: the owning block answers, the reply enters the cache and is queued. `offers` says whether an offer that the
request's effect brings may be taken before its reply is queued (R112, R136). -/
def State.executeRequest (offers : Bool) (f : Frame) (own : List Byte → State → Answer) (s : State) : State :=
  let a := own f.body s
  let reply := mkFrame (replyKind f.kind) f.tag a.body
  let t := if offers then a.state.offerBeforeReply else a.state
  let e : CacheEntry := { tag := f.tag, crc := f.crc, reply := reply }
  (State.queueReply reply a.resets { t with session := { t.session with cache := writeCache e t.session.cache } }).kick

/-- Steps 3 to 5 of R142. -/
def State.judgeRequest (offers : Bool) (f : Frame) (own : List Byte → State → Answer) (s : State) : State :=
  if s.session.state = .down then
    (s.queueReply (mkFrame (replyKind f.kind) f.tag Status.noSession.bytes) false).kick
  else
    match findRepeat f s.session.cache with
    | some e => (s.queueReply e.reply false).kick
    | none => s.executeRequest offers f own

/-- A request of this kind, other than HELLO, is taken and settled (R141, R142), after a grant that is due (2-7). Where none can
be taken, nothing happens (log 3). -/
def State.takeRequest (offers : Bool) (kind : Byte) (own : List Byte → State → Answer) (s : State) : State :=
  let p := s.takeGrant
  match p.takes (fun k => decide (k = kind)) with
  | none => p
  | some f => p.dropInbound.judgeRequest offers f own

end Sys2Proof.Machine
end

