-- ==== Sys2Proof/Machine/HostRequests.lean ====
section
/-! DEFINITION. The requests of session and report flow, of the system, of the profile store and of reset: HELLO, GRANT, ACK,
RESEND, SNAPSHOT, READ SYSTEM, READ LINK, SAVE, RESET, and the frame of no assigned kind. -/

namespace Sys2Proof.Machine

/-! ### HELLO (R145, R146) -/

/-- The effect of a HELLO of length 0, steps 1 to 4 of R145. -/
def State.openSession (s : State) : State :=
  State.restartSilence
    { s with
      session := { s.session with state := .up, cache := [] }
      store := { s.store.requeue with credits := 0 } }

/-- The fields of the HELLO reply (R146, R203). -/
def State.helloFields (s : State) : List Byte :=
  le16 0x1624 ++ byte 0x01 ++ byte s.session.cause.code ++ byte (slotCode s.prof.active) ++
    le32 (if s.prof.active.isNone then 0 else s.prof.generation.toNat) ++ byte s.store.free ++ byte s.store.postedCount ++
    byte s.store.sentCount ++ byte s.store.credits ++ le16 s.store.lost

/-- What a HELLO is answered, in any session state (R145). -/
def answerHello (body : List Byte) (s : State) : Answer :=
  if body.length ≠ 0 then Answer.refuse .badLength s
  else Answer.ok s.openSession s.openSession.helloFields

/-- HELLO request taken (R142 step 2, R145): never answered from the cache and never entered into it. -/
def execHello (s : State) : Host.Outcome State Fault Refusal :=
  let p := s.takeGrant
  match p.takes (fun k => decide (k = 0x01#8)) with
  | none => .next p
  | some f =>
    let a := answerHello f.body p.dropInbound
    .next (a.state.queueReply (mkFrame (replyKind f.kind) f.tag a.body) false).kick

/-! ### GRANT (R112, R158) -/

/-- Credits after a grant of n: clamped so that credits plus SENT records stay at 64 or below (R112). -/
def Store.grant (n : Nat) (st : Store) : Store := { st with credits := min (st.credits + n) (64 - st.sentCount) }

/-- What a GRANT is answered (R158). -/
def answerGrant (body : List Byte) (s : State) : Answer :=
  if body.length ≠ 1 then Answer.refuse .badLength s
  else if 1 ≤ u8 body 0 ∧ u8 body 0 ≤ 64 then
    Answer.ok { s with store := s.store.grant (u8 body 0) } (byte (s.store.grant (u8 body 0)).credits)
  else Answer.refuse .badField s

/-- GRANT request taken (R112). The reports its credit allows follow its reply. -/
def execGrant (s : State) : Host.Outcome State Fault Refusal := .next (s.takeRequest false 0x02#8 answerGrant)

/-! ### ACK (R116, R117, R159) -/

/-- What an ACK is answered (R116, R117, R159). -/
def answerAck (body : List Byte) (s : State) : Answer :=
  if body.length ≠ 2 then Answer.refuse .badLength s
  else
    match s.store.ackCount (BitVec.ofNat 16 (u16 body 0)) with
    | none => Answer.refuse .badField s
    | some n => Answer.ok { s with store := s.store.freeOldest s.timeBase n } (byte n)

/-- ACK request taken (R117). -/
def execAck (s : State) : Host.Outcome State Fault Refusal := .next (s.takeRequest true 0x03#8 answerAck)

/-! ### RESEND (R119, R160) -/

/-- What a RESEND is answered (R119, R160). -/
def answerResend (body : List Byte) (s : State) : Answer :=
  if body.length ≠ 0 then Answer.refuse .badLength s
  else Answer.ok { s with store := s.store.requeue } (byte s.store.sentCount)

/-- RESEND request taken (R119). -/
def execResend (s : State) : Host.Outcome State Fault Refusal := .next (s.takeRequest true 0x04#8 answerResend)

/-! ### SNAPSHOT (R105, R161) -/

/-- The latest values of these many channels from a first one, in ascending order (R105). -/
def State.latestFrom (first count : Nat) (s : State) : List Reading :=
  ((s.scan.records.toList.drop first).take count).map (·.latest)

/-- The three records' payloads (R105). -/
def State.snapshotReport (s : State) : List Payload :=
  [.snapshot (s.latestFrom 0 8), .snapshot (s.latestFrom 8 8), .snapshot (s.latestFrom 16 8)]

/-- What a SNAPSHOT is answered: OK, posted or dropped (R161). -/
def answerSnapshot (body : List Byte) (s : State) : Answer :=
  if body.length ≠ 0 then Answer.refuse .badLength s
  else
    Answer.ok (s.post s.snapshotReport)
      (if s.store.lost = 0 ∧ 3 ≤ s.store.free then yesNoByte true ++ le16 s.store.counter.toNat else yesNoByte false)

/-- SNAPSHOT request taken (R105). -/
def execSnapshot (s : State) : Host.Outcome State Fault Refusal := .next (s.takeRequest true 0x05#8 answerSnapshot)

/-! ### READ SYSTEM (R178) -/

/-- The bytes of a queue entry (R203). -/
def QueueEntry.bytes (e : QueueEntry) : List Byte := byte e.load.val ++ byte e.priority ++ le16 e.number.toNat

/-- The fields of the READ SYSTEM reply, in the order of R178 (log 13). -/
def State.systemFields (s : State) : List Byte :=
  byte s.seq.queue.length ++ s.seq.queue.flatMap QueueEntry.bytes ++
    byte (match s.seq.slot with | none => noneCode | some n => n.val) ++
    yesNoByte s.seq.gap.isRunning ++ le16 s.seq.gap.left ++ yesNoByte s.scan.primed ++
    yesNoByte s.quals.kill.qualified ++ byte s.session.state.code ++ byte s.store.free ++ byte s.store.postedCount ++
    byte s.store.sentCount ++ byte s.store.credits ++ le16 s.store.lost ++ yesNoByte s.prof.dirty ++
    yesNoByte s.prof.save.isSome

/-- What a READ SYSTEM is answered (R178). -/
def answerReadSystem (body : List Byte) (s : State) : Answer :=
  if body.length ≠ 0 then Answer.refuse .badLength s else Answer.ok s s.systemFields

/-- READ SYSTEM request taken (R178). -/
def execReadSystem (s : State) : Host.Outcome State Fault Refusal := .next (s.takeRequest true 0x29#8 answerReadSystem)

/-! ### READ LINK (R137, R179) -/

/-- The six counters, in the order of R179. -/
def LinkStats.bytes (c : LinkStats) : List Byte :=
  le16 c.accepted ++ le16 c.dropped ++ le16 c.length ++ le16 c.timeout ++ le16 c.framing ++ le16 c.crc

/-- What a READ LINK is answered: the values before any clearing (R179). -/
def answerReadLink (body : List Byte) (s : State) : Answer :=
  if body.length ≠ 1 then Answer.refuse .badLength s
  else
    match yesNo? (u8 body 0) with
    | none => Answer.refuse .badField s
    | some false => Answer.ok s s.link.stats.bytes
    | some true => Answer.ok (s.countLink (fun _ => LinkStats.zero)) s.link.stats.bytes

/-- READ LINK request taken (R179). -/
def execReadLink (s : State) : Host.Outcome State Fault Refusal := .next (s.takeRequest true 0x2A#8 answerReadLink)

/-! ### SAVE (R180, R186) -/

/-- The generation of the next save: one more than the active one, FFFFFFFFh staying (R186). -/
def nextGeneration (g : DWord) : DWord := if g = 0xFFFFFFFF#32 then g else g + 1

/-- The active generation, which is 0 when the active slot is none (R184, R186). -/
def Profile.activeGeneration (p : Profile) : DWord := if p.active.isNone then 0 else p.generation

/-- A save begins (R186): the target is INVALID from now on, the image is the working set as it stands, the dirty flag is
cleared. -/
def State.beginSave (s : State) : State :=
  let target := nextTarget s.prof.active
  { s with
    prof :=
      { s.prof.setSlot target .torn .invalid with
        dirty := false
        save := some
          { target := target, generation := nextGeneration s.prof.activeGeneration, image := s.ws, timer := .running 45 } } }

/-- What a SAVE is answered (R180, R186). -/
def answerSave (body : List Byte) (s : State) : Answer :=
  if body.length ≠ 0 then Answer.refuse .badLength s
  else if s.prof.save.isSome then Answer.refuse .busy s
  else
    Answer.ok s.beginSave
      (byte (nextTarget s.prof.active).code ++ le32 (nextGeneration s.prof.activeGeneration).toNat)

/-- SAVE request taken (R186). -/
def execSave (s : State) : Host.Outcome State Fault Refusal := .next (s.takeRequest true 0x30#8 answerSave)

/-! ### RESET (R154, R181) -/

/-- What a RESET is answered: taking closes, and the end of the reply resets the part (R154). -/
def answerReset (body : List Byte) (s : State) : Answer :=
  if body.length ≠ 0 then Answer.refuse .badLength s
  else { state := { s with session := { s.session with taking := false } }, body := Status.ok.bytes, resets := true }

/-- RESET request taken (R154). -/
def execReset (s : State) : Host.Outcome State Fault Refusal := .next (s.takeRequest true 0x3E#8 answerReset)

/-! ### A frame of no assigned kind (R143) -/

/-- A good frame of a kind that is not an assigned request kind is taken and answered with kind 40h and BAD_KIND, in every
session state; it is not cached (R142 step 1, R143). -/
def execBadKindFrame (s : State) : Host.Outcome State Fault Refusal :=
  let p := s.takeGrant
  match p.takes (fun k => !assignedKinds.contains k) with
  | none => .next p
  | some f => .next (p.dropInbound.queueReply (mkFrame 0x40#8 f.tag Status.badKind.bytes) false).kick

end Sys2Proof.Machine
end

