-- ==== Sys2Proof/Machine/LinkEvents.lean ====
section
/-! DEFINITION. The events of the serial line: a byte arrives, the interbyte timer expires, the line frees. -/

namespace Sys2Proof.Machine

/-- A byte with a stop-bit error: any open frame is discarded and FRAMING is counted, in any framer state (R130). -/
def State.framingError (s : State) : State :=
  (s.setFramer .hunt).countLink (fun c => { c with framing := bump c.framing })

/-- A byte arrives at the receiver (R127, R128, R130, R131). While the receiver is disabled nothing is taken from RXD. -/
def execByteArrival (b : Byte) (stopError : Bool) (s : State) : Host.Outcome State Fault Refusal :=
  .next (if s.link.rxEnabled then (if stopError then s.framingError else s.frameByte b).kick else s)

/-- The open frame is discarded and TIMEOUT is counted (R129, R130). -/
def State.interbyteExpires (s : State) : State :=
  (s.setFramer .hunt).countLink (fun c => { c with timeout := bump c.timeout })

/-- The interbyte timer expires (R129). -/
def execInterbyteTimeout (s : State) : Host.Outcome State Fault Refusal :=
  let p := s.takeGrant
  .next (p.whenDue p.link.interbyte State.interbyteExpires)

/-- The transmitter becomes IDLE. -/
def State.goIdle (s : State) : State := { s with link := { s.link with tx := .idle } }

/-- The last CRC byte of the frame on TXD ends (R135): the next frame starts at once; the end of a RESET reply resets the part
instead, and no other frame starts (R136, R154; log 17). With no frame on the line nothing happens. -/
def execLineFrees (s : State) : Host.Outcome State Fault Refusal :=
  match s.link.tx with
  | .idle => .next s
  | .report _ => .next s.goIdle.kick
  | .reply r => .next (if r.resets then s.takeReset .held .request else s.goIdle.kick)

end Sys2Proof.Machine
end

