-- ==== Sys2Proof/Machine/LoadEvents.lean ====
section
/-! DEFINITION. The grant, the timers of a load, the start gap, the restore hold and the silence timer. -/

namespace Sys2Proof.Machine

/-- The grant to the head of the queue, when all five conditions of R36 hold (R10, R38; log 5). -/
def execStartGrant (s : State) : Host.Outcome State Fault Refusal := .next s.takeGrant

/-- The settle timer of load n has run out: the feedback check, then ON or a trip (R12). Either releases the start slot, and the
sequencer considers a grant (R37). -/
def State.settleExpires (n : LoadIx) (s : State) : State :=
  State.considerGrant
    (if s.ws.loads[n].feedback = .required ∧ s.quals.pg[n].qualified = false then s.trip .noFeedback n
     else s.moveLoad n .on .settled)

/-- The settle timer of load n expires (R12). -/
def execSettleExpiry (n : LoadIx) (s : State) : Host.Outcome State Fault Refusal :=
  let p := s.takeGrant
  .next (if p.loads[n].state = .starting then p.whenDue p.loads[n].settle (State.settleExpires n) else p)

/-- Retries used returns to 0; no report (R16). -/
def State.cleanRunExpires (n : LoadIx) (s : State) : State :=
  s.setLoad n { s.loads[n] with retries := 0, cleanRun := .stopped }

/-- The clean-run timer of load n expires (R16). -/
def execCleanRunExpiry (n : LoadIx) (s : State) : Host.Outcome State Fault Refusal :=
  let p := s.takeGrant
  .next (if p.loads[n].state = .on then p.whenDue p.loads[n].cleanRun (State.cleanRunExpires n) else p)

/-- The load leaves TRIPPED by its demand and the depth (R21), and the sequencer considers a grant (R37). -/
def State.backoffExpires (n : LoadIx) (s : State) : State :=
  State.considerGrant
    (State.moveLoad n (if !s.loads[n].demand then .off else if s.isShed n then .shed else .queued) .backoffEnd
      (s.setLoad n { s.loads[n] with backoff := .stopped }))

/-- The backoff timer of load n expires (R21). -/
def execBackoffExpiry (n : LoadIx) (s : State) : Host.Outcome State Fault Refusal :=
  let p := s.takeGrant
  .next (if p.loads[n].state = .tripped then p.whenDue p.loads[n].backoff (State.backoffExpires n) else p)

/-- The gap timer stops and the sequencer considers a grant (R41). -/
def State.gapExpires (s : State) : State := State.considerGrant { s with seq := { s.seq with gap := .stopped } }

/-- The start gap timer expires (R41). -/
def execGapExpiry (s : State) : Host.Outcome State Fault Refusal :=
  let p := s.takeGrant
  .next (p.whenDue p.seq.gap State.gapExpires)

/-- The restore hold is over: each load in SHED that is not shed at the present depth is queued (R25, R67), and then the sequencer
considers a grant once (R37, R46). -/
def State.holdExpires (s : State) : State :=
  State.considerGrant (State.eachLoad allLoads State.restoreLoad { s with sev := { s.sev with hold := .stopped } })

/-- The restore hold timer expires (R67). -/
def execRestoreHoldExpiry (s : State) : Host.Outcome State Fault Refusal :=
  let p := s.takeGrant
  .next (p.whenDue p.sev.hold State.holdExpires)

/-- The host is declared lost (R148): LOST, HOST_LOST, credits 0 and the SENT records requeued (R120), then the orphan actions
(R27), after which the sequencer considers a grant once (R37). -/
def State.loseHost (s : State) : State :=
  let t : State := { s with session := { s.session with state := .lost, silence := .stopped } }
  let u := t.post [.hostLost s.ws.globals.silenceTimeout]
  State.considerGrant
    (State.eachLoad allLoads State.orphanAction { u with store := { u.store.requeue with credits := 0 } })

/-- The silence timer, which runs only while the session is UP (R147), expires (R148). -/
def execSilenceExpiry (s : State) : Host.Outcome State Fault Refusal :=
  let p := s.takeGrant
  .next (if p.session.state = .up then p.whenDue p.session.silence State.loseHost else p)

end Sys2Proof.Machine
end

