-- ==== Sys2Proof/Machine/LoadRequests.lean ====
section
/-! DEFINITION. The requests of the load controller: DEMAND, CLEAR, SET LOAD, READ LOAD. -/

namespace Sys2Proof.Machine

/-- An accepted SET request sets the dirty flag (R157). -/
def State.setDirty (s : State) : State := { s with prof := { s.prof with dirty := true } }

/-! ### DEMAND (R162, R163) -/

/-- The loads that a mask names, in ascending order (R162). -/
def maskLoads (mask : Nat) : List LoadIx := allLoads.filter (fun n => mask.testBit n.val)

/-- The mask that names these loads. -/
def loadMask (ns : List LoadIx) : Nat := (ns.map (fun n => 2 ^ n.val)).sum

/-- A demand ON is refused for an unfitted or LOCKED load (R163). -/
def State.acceptsOn (s : State) (n : LoadIx) : Bool := s.ws.loads[n].fitted && decide (s.loads[n].state ≠ .locked)

/-- The end of a DEMAND that was applied: the sequencer considers a grant once, after all its loads (R37), and the reply is OK or
PARTIAL with the accepted mask and the refused mask (R163). -/
def demandReply (st : Status) (accepted refused : List LoadIx) (s : State) : Answer :=
  { state := s.considerGrant, body := st.bytes ++ le16 (loadMask accepted) ++ le16 (loadMask refused) }

/-- A DEMAND ON that no check of the whole request stops (R163). -/
def answerDemandOn (ns : List LoadIx) (s : State) : Answer :=
  let accepted := ns.filter s.acceptsOn
  let refused := ns.filter (fun n => !s.acceptsOn n)
  if accepted = [] then Answer.refuse .badState s
  else
    demandReply (if refused = [] then .ok else .partly) accepted refused (s.eachLoad accepted (State.demandOn .demand))

/-- What a DEMAND is answered (R162, R163). -/
def answerDemand (body : List Byte) (s : State) : Answer :=
  if body.length ≠ 3 then Answer.refuse .badLength s
  else
    match yesNo? (u8 body 2) with
    | none => Answer.refuse .badField s
    | some on =>
      if u16 body 0 = 0 then Answer.refuse .badField s
      else if on && s.quals.kill.qualified then Answer.refuse .killed s
      else if on then answerDemandOn (maskLoads (u16 body 0)) s
      else
        demandReply .ok (maskLoads (u16 body 0)) []
          (s.eachLoad (maskLoads (u16 body 0)) (State.demandOff .demand))

/-- DEMAND request taken (R163). -/
def execDemand (s : State) : Host.Outcome State Fault Refusal := .next (s.takeRequest true 0x10#8 answerDemand)

/-! ### CLEAR (R23, R164) -/

/-- A LOCKED load goes to OFF with demand OFF and retries used 0; the trip cause is kept (R23). -/
def State.clearLoad (n : LoadIx) (s : State) : State :=
  (s.setLoad n { s.loads[n] with demand := false, retries := 0 }).moveLoad n .off .clear

/-- What a CLEAR is answered (R164). -/
def answerClear (body : List Byte) (s : State) : Answer :=
  if body.length ≠ 1 then Answer.refuse .badLength s
  else
    match load? (u8 body 0) with
    | none => Answer.refuse .badField s
    | some n => if s.loads[n].state = .locked then Answer.ok (s.clearLoad n) [] else Answer.refuse .badState s

/-- CLEAR request taken (R164). -/
def execClear (s : State) : Host.Outcome State Fault Refusal := .next (s.takeRequest true 0x11#8 answerClear)

/-! ### SET LOAD (R29, R165) -/

/-- The new configuration replaces the old; retries used and both streaks become 0 (R29). -/
def State.configureLoad (n : LoadIx) (c : LoadConfig) (s : State) : State :=
  State.setDirty
    (State.setLoad n { s.loads[n] with retries := 0, overStreak := 0, senseStreak := 0 }
      { s with ws := { s.ws with loads := s.ws.loads.set n c } })

/-- What a SET LOAD is answered: every field is checked before the state of the load (R165). -/
def answerSetLoad (body : List Byte) (s : State) : Answer :=
  if body.length ≠ 14 then Answer.refuse .badLength s
  else
    match load? (u8 body 0), LoadConfig.ofBody body with
    | some n, some c =>
      if s.loads[n].state = .off then Answer.ok (s.configureLoad n c) [] else Answer.refuse .badState s
    | none, _ => Answer.refuse .badField s
    | some _, none => Answer.refuse .badField s

/-- SET LOAD request taken (R165). -/
def execSetLoad (s : State) : Host.Outcome State Fault Refusal := .next (s.takeRequest true 0x12#8 answerSetLoad)

/-! ### READ LOAD (R166) -/

/-- The trip cause field, FFh for none (R204). -/
def tripCauseCode : Option TripCause → Nat
  | none => noneCode
  | some c => c.code

/-- The fields of the READ LOAD reply, bytes 1 to 35 of the layout of R203. -/
def State.loadFields (n : LoadIx) (s : State) : List Byte :=
  let r := s.loads[n]
  byte n.val ++ s.ws.loads[n].bytes ++ yesNoByte r.demand ++ byte r.state.code ++ byte r.retries ++
    byte (tripCauseCode r.tripCause) ++ byte r.overStreak ++ byte r.senseStreak ++
    byte (flagBits [r.settle.isRunning, r.backoff.isRunning, r.cleanRun.isRunning, r.entry.isSome, s.quals.pg[n].qualified]) ++
    le16 r.settle.left ++ le32 r.backoff.left ++ le32 r.cleanRun.left ++ le16 (r.entry.getD 0).toNat ++
    readingBytes (s.lastCurrent n)

/-- What a READ LOAD is answered (R166). -/
def answerReadLoad (body : List Byte) (s : State) : Answer :=
  if body.length ≠ 1 then Answer.refuse .badLength s
  else
    match load? (u8 body 0) with
    | none => Answer.refuse .badField s
    | some n => Answer.ok s (s.loadFields n)

/-- READ LOAD request taken (R166). -/
def execReadLoad (s : State) : Host.Outcome State Fault Refusal := .next (s.takeRequest true 0x13#8 answerReadLoad)

end Sys2Proof.Machine
end

