-- ==== Sys2Proof/Machine/PinEvents.lean ====
section
/-! DEFINITION. The events of the input qualifiers: a pin changes, a qualification time passes. -/

namespace Sys2Proof.Machine

/-- Replace the qualifier of PGn. -/
def State.setPg (n : LoadIx) (q : Qualifier) (s : State) : State :=
  { s with quals := { s.quals with pg := s.quals.pg.set n q } }

/-- Pin PGn changes level (R14). While a reset is held no qualifier runs (R190). -/
def execPgPinChange (n : LoadIx) (level : PinLevel) (s : State) : Host.Outcome State Fault Refusal :=
  .next (s.setPg n (s.quals.pg[n].pinTo s.phase.timeRuns true 5 level))

/-- PGn becomes qualified at its pin's level; lost in ON with feedback REQUIRED, the load trips (R14, R15). -/
def State.pgQualifies (n : LoadIx) (s : State) : State :=
  let asserted := s.quals.pg[n].highAsserted
  let t := s.setPg n (s.quals.pg[n].adopt asserted)
  if asserted = false ∧ s.loads[n].state = .on ∧ s.ws.loads[n].feedback = .required then t.trip .feedbackLost n else t

/-- The qualification time of PGn passes (R14, R15). -/
def execPgQualified (n : LoadIx) (s : State) : Host.Outcome State Fault Refusal :=
  let p := s.takeGrant
  .next (p.whenDue p.quals.pg[n].timer (State.pgQualifies n))

/-- Pin KILL_N changes level (R196). -/
def execKillPinChange (level : PinLevel) (s : State) : Host.Outcome State Fault Refusal :=
  .next { s with quals := { s.quals with kill := s.quals.kill.pinTo s.phase.timeRuns false 10 level } }

/-- KILL becomes qualified at its pin's level; the demands it sets move loads out of the queue, and then the sequencer considers a
grant (R37). Before the fourth step of start-up the change is held (R194, R196). -/
def State.killQualifies (s : State) : State :=
  let asserted := s.quals.kill.lowAsserted
  let t : State := { s with quals := { s.quals with kill := s.quals.kill.adopt asserted } }
  if s.phase = .running then (t.handKill asserted).considerGrant else t

/-- The qualification time of KILL passes (R196, R197). -/
def execKillQualified (s : State) : Host.Outcome State Fault Refusal :=
  let p := s.takeGrant
  .next (p.whenDue p.quals.kill.timer State.killQualifies)

/-- Pin SHED_N changes level (R196). -/
def execShedPinChange (level : PinLevel) (s : State) : Host.Outcome State Fault Refusal :=
  .next { s with quals := { s.quals with shed := s.quals.shed.pinTo s.phase.timeRuns false 20 level } }

/-- SHED becomes qualified at its pin's level; the depth follows, and then the sequencer considers a grant (R37). Before the fourth
step of start-up the change is held (R194, R196). -/
def State.shedQualifies (s : State) : State :=
  let asserted := s.quals.shed.lowAsserted
  let t : State := { s with quals := { s.quals with shed := s.quals.shed.adopt asserted } }
  if s.phase = .running then (t.handShed asserted).considerGrant else t

/-- The qualification time of SHED passes (R196, R198). -/
def execShedQualified (s : State) : Host.Outcome State Fault Refusal :=
  let p := s.takeGrant
  .next (p.whenDue p.quals.shed.timer State.shedQualifies)

end Sys2Proof.Machine
end

