-- ==== Sys2Proof/Machine/ResetEvents.lean ====
section
/-! DEFINITION. Power, resets and start-up: POWER_ON_RESET, PIN_RESET, RESET_END, PROFILE_SELECTION, POWER_LOSS; and the end of a
save. -/

namespace Sys2Proof.Machine

/-- The supply comes up or returns: a reset of cause POWER_ON is taken (R190). -/
def execPowerOnReset (s : State) : Host.Outcome State Fault Refusal := .next (s.takeReset .held .powerOn)

/-- RST_N is driven low: a reset of cause PIN is taken (R190). Without supply the part takes none. -/
def execPinReset (s : State) : Host.Outcome State Fault Refusal :=
  .next (if s.phase = .unpowered then s else s.takeReset .held .pin)

/-- The supply falls below its operating level (R189, R190): the part stops at once, a save in flight ends without its verify,
and the reset values hold until the supply returns (log 15). -/
def execPowerLoss (s : State) : Host.Outcome State Fault Refusal := .next (s.takeReset .unpowered s.session.cause)

/-- Step 1 of start-up (R191): the straps are sampled, the receiver is enabled, the qualifiers begin, the time base starts from
0, and the 30 ms of step 2 begin. -/
def State.beginStartup (p : Straps) (s : State) : State :=
  { s with
    phase := .selecting
    timeBase := 0
    startup := .running 30
    link := { s.link with rxEnabled := true }
    prof := { s.prof with straps := p }
    quals :=
      { kill := s.quals.kill.start s.quals.kill.lowAsserted 10
        shed := s.quals.shed.start s.quals.shed.lowAsserted 20
        pg := s.quals.pg.map (fun q => q.start q.highAsserted 5) } }

/-- The reset ends (R191; logs 17 and 18). -/
def execResetEnd (br1 br0 asInh : PinLevel) (s : State) : Host.Outcome State Fault Refusal :=
  .next (if s.phase = .held then s.beginStartup { br1 := br1, br0 := br0, asInh := asInh } else s)

/-- Steps 2 to 6 of start-up, at the end of the 30 ms (R192 to R195). -/
def State.completeStartup (asInh : PinLevel) (s : State) : State :=
  (s.selectProfile.startupReports).startRunning asInh

/-- The profile is selected at the end of the 30 ms, no millisecond later (R192), and start-up completes (R193 to R195). It waits
for the expiries that come before it (R1; log 3). -/
def execProfileSelection (asInh : PinLevel) (s : State) : Host.Outcome State Fault Refusal :=
  .next
    (if s.phase = .selecting ∧ s.startup.isRunning = true ∧ s.allows s.startup.left = true then
      (State.completeStartup asInh (s.elapse s.startup.left)).kick
    else s)

/-- A save ends with its read-back (R187). -/
def State.endSave (v : Save) (verified : Bool) (s : State) : State :=
  if verified then
    State.post [.profileSaved v.target v.generation]
      { s with
        prof :=
          { s.prof.setSlot v.target (.written v.generation v.image) (.valid v.generation) with
            active := some v.target, generation := v.generation, save := none } }
  else
    State.post [.saveFailed v.target v.generation] { s with prof := { s.prof with dirty := true, save := none } }

/-- The save in flight ends, 45 ms after it began (R187). -/
def execSaveEnd (verified : Bool) (s : State) : Host.Outcome State Fault Refusal :=
  let p := s.takeGrant
  match p.prof.save with
  | none => .next p
  | some v => .next (p.whenDue v.timer (State.endSave v verified))

end Sys2Proof.Machine
end

