-- ==== Sys2Proof/Machine/ScanEvents.lean ====
section
/-! DEFINITION. The events of the scanner and the arrivals of a reading at the severity unit, the watch unit and a load. -/

namespace Sys2Proof.Machine

/-- The conversion in progress ends (R81). A converter that converts nothing gives no reading, and no conversion gives a raw
value above 4095. Where the reading sets the priming flag, the grant that the sequencer considers is START_GRANT's (R84;
log 5). -/
def execReadingArrival (raw : Nat) (s : State) : Host.Outcome State Fault Refusal :=
  let p := s.takeGrant
  match p.scan.state with
  | .stopped => .next p
  | .paused => .next p
  | .converting ch restart => .next (if raw ≤ 4095 then (p.readingArrives ch restart raw).kick else p)

/-- The pause is over: the conversion of entry 0 begins (R76). -/
def State.pauseExpires (s : State) : State :=
  { s with scan := Scanner.begin s.ws.scanList 0 { s.scan with pause := .stopped } }

/-- The cycle pause timer expires (R76). -/
def execPauseExpiry (s : State) : Host.Outcome State Fault Refusal :=
  let p := s.takeGrant
  .next (if p.scan.state = .paused then p.whenDue p.scan.pause State.pauseExpires else p)

/-- A reading reaches every ladder bound to its channel in ascending order, the depth is formed once (R51), and the sequencer
considers a grant (R37). -/
def State.laddersTake (d : Delivery (List LadderIx)) (s : State) : State :=
  State.considerGrant (State.formDepth (allLadders.foldl (fun t k => t.ladderTakes d k) s))

/-- The oldest reading handed to the severity unit is taken (R51, R82). -/
def execLadderEvaluation (s : State) : Host.Outcome State Fault Refusal :=
  match s.scan.toLadders with
  | [] => .next s
  | d :: rest => .next (State.laddersTake d { s with scan := { s.scan with toLadders := rest } }).kick

/-- A reading reaches every watch bound to its channel in ascending order (R91). -/
def State.watchesTake (d : Delivery (List WatchIx)) (s : State) : State :=
  allWatches.foldl (fun t w => t.watchTakes d w) s

/-- The oldest reading handed to the watch unit is taken (R82, R91). -/
def execWatchEvaluation (s : State) : Host.Outcome State Fault Refusal :=
  match s.scan.toWatches with
  | [] => .next s
  | d :: rest => .next (State.watchesTake d { s with scan := { s.scan with toWatches := rest } }).kick

/-- The oldest reading handed to the load controller is taken by the load of its number (R11, R13, R18, R20, R82). -/
def execLoadReading (s : State) : Host.Outcome State Fault Refusal :=
  match s.scan.toLoads with
  | [] => .next s
  | d :: rest =>
    let t : State := { s with scan := { s.scan with toLoads := rest } }
    .next (t.loadTakes d.bound d.reading).kick

end Sys2Proof.Machine
end

