-- ==== Sys2Proof/Machine/ScanRequests.lean ====
section
/-! DEFINITION. The requests of the scanner and of the watch unit: SET SCAN, SET CHANNEL, READ CHANNELS, SET WATCH, ACK WATCH,
READ WATCH. -/

namespace Sys2Proof.Machine

/-! ### SET SCAN (R85, R86, R171) -/

/-- The new list keeps every channel that an enabled ladder, an active watch, or a fitted load out of OFF is bound to (R85). -/
def State.keepsBound (list : List ChanIx) (s : State) : Bool :=
  allLadders.all (fun k => !s.ws.ladders[k].enabled || list.contains s.ws.ladders[k].source) &&
    allWatches.all (fun w => decide (s.ws.watches[w].mode = .off) || list.contains s.ws.watches[w].channel) &&
    allLoads.all (fun n =>
      !s.ws.loads[n].fitted || decide (s.loads[n].state = .off) || list.contains (n.castLE (by decide : 16 ≤ 24)))

/-- How the scanner proceeds on a new list (R86). -/
def Scanner.restart (list : List ChanIx) (c : Scanner) : Scanner :=
  match c.state with
  | .converting ch _ => { c with state := .converting ch true, cursor := 0 }
  | .paused => Scanner.begin list 0 { c with pause := .stopped }
  | .stopped => c

/-- An accepted SET SCAN (R86, R84, R157). Where it sets the priming flag the sequencer considers a grant (R37). -/
def State.configureScan (list : List ChanIx) (pause : Nat) (s : State) : State :=
  State.considerGrant
    (State.setDirty
      { s with
        ws := { s.ws with scanList := list, cyclePause := pause }
        scan := (s.scan.restart list).checkPriming list })

/-- What a SET SCAN is answered (R85, R171). -/
def answerSetScan (body : List Byte) (s : State) : Answer :=
  if body.length < 2 ∨ body.length ≠ u8 body 0 + 2 then Answer.refuse .badLength s
  else
    match scanOfBody body with
    | none => Answer.refuse .badField s
    | some (list, pause) =>
      if s.keepsBound list then Answer.ok (s.configureScan list pause) [] else Answer.refuse .badField s

/-- SET SCAN request taken (R171). -/
def execSetScan (s : State) : Host.Outcome State Fault Refusal := .next (s.takeRequest true 0x20#8 answerSetScan)

/-! ### SET CHANNEL (R87, R172) -/

/-- An accepted SET CHANNEL (R87, R157). -/
def State.configureChannel (ch : ChanIx) (c : ChannelConfig) (s : State) : State :=
  State.setDirty { s with ws := { s.ws with channels := s.ws.channels.set ch c } }

/-- What a SET CHANNEL is answered (R172). -/
def answerSetChannel (body : List Byte) (s : State) : Answer :=
  if body.length ≠ 6 then Answer.refuse .badLength s
  else
    match chan? (u8 body 0), ChannelConfig.ofBody body with
    | some ch, some c => Answer.ok (s.configureChannel ch c) []
    | none, _ => Answer.refuse .badField s
    | some _, none => Answer.refuse .badField s

/-- SET CHANNEL request taken (R172). -/
def execSetChannel (s : State) : Host.Outcome State Fault Refusal := .next (s.takeRequest true 0x21#8 answerSetChannel)

/-! ### READ CHANNELS (R88, R173) -/

/-- The 9 bytes of a channel record (R203). -/
def ChannelRec.bytes (r : ChannelRec) : List Byte :=
  readingBytes r.latest ++ byte (flagBits [r.valid, r.read]) ++ le16 r.raw ++ le32 r.timestamp.toNat

/-- What a READ CHANNELS is answered (R88, R173). -/
def answerReadChannels (body : List Byte) (s : State) : Answer :=
  if body.length ≠ 2 then Answer.refuse .badLength s
  else if u8 body 0 < 24 ∧ 1 ≤ u8 body 1 ∧ u8 body 1 ≤ 10 ∧ u8 body 0 + u8 body 1 ≤ 24 then
    Answer.ok s
      (byte (u8 body 0) ++ byte (u8 body 1) ++
        ((s.scan.records.toList.drop (u8 body 0)).take (u8 body 1)).flatMap ChannelRec.bytes)
  else Answer.refuse .badField s

/-- READ CHANNELS request taken (R173). -/
def execReadChannels (s : State) : Host.Outcome State Fault Refusal :=
  .next (s.takeRequest true 0x22#8 answerReadChannels)

/-! ### SET WATCH (R99, R100, R174) -/

/-- The watch stays bound to the channel it was bound to. -/
def WatchConfig.keepsChannel (old new : WatchConfig) : Bool :=
  decide (old.mode ≠ .off) && decide (new.mode ≠ .off) && decide (old.channel = new.channel)

/-- An accepted SET WATCH: the watch is in PENDING with its flag clear and no last reading (R100, R157). A watch that it sets out
of OFF or gives a new channel takes no reading that has arrived already (R83, R100). -/
def State.configureWatch (w : WatchIx) (c : WatchConfig) (s : State) : State :=
  State.setDirty
    { s with
      ws := { s.ws with watches := s.ws.watches.set w c }
      watches := s.watches.set w WatchRec.reset
      scan := if s.ws.watches[w].keepsChannel c then s.scan else s.scan.unbindWatch w }

/-- What a SET WATCH is answered (R99, R174). -/
def answerSetWatch (body : List Byte) (s : State) : Answer :=
  if body.length ≠ 9 then Answer.refuse .badLength s
  else
    match watch? (u8 body 0), WatchConfig.ofBody body with
    | some w, some c =>
      if c.mode = .off ∨ s.ws.scanList.contains c.channel = true then Answer.ok (s.configureWatch w c) []
      else Answer.refuse .badField s
    | none, _ => Answer.refuse .badField s
    | some _, none => Answer.refuse .badField s

/-- SET WATCH request taken (R174). -/
def execSetWatch (s : State) : Host.Outcome State Fault Refusal := .next (s.takeRequest true 0x24#8 answerSetWatch)

/-! ### ACK WATCH (R97, R175) -/

/-- The latched flag is cleared; state and last reading stand (R97). -/
def State.unlatch (w : WatchIx) (s : State) : State :=
  { s with watches := s.watches.set w { s.watches[w] with latched := false } }

/-- What an ACK WATCH is answered (R97, R175). -/
def answerAckWatch (body : List Byte) (s : State) : Answer :=
  if body.length ≠ 1 then Answer.refuse .badLength s
  else
    match watch? (u8 body 0) with
    | none => Answer.refuse .badField s
    | some w => if s.ws.watches[w].mode = .latched then Answer.ok (s.unlatch w) [] else Answer.refuse .badState s

/-- ACK WATCH request taken (R175). -/
def execAckWatch (s : State) : Host.Outcome State Fault Refusal := .next (s.takeRequest true 0x25#8 answerAckWatch)

/-! ### READ WATCH (R101, R176) -/

/-- The fields of the READ WATCH reply (R203). -/
def State.watchFields (w : WatchIx) (s : State) : List Byte :=
  let c := s.ws.watches[w]
  let r := s.watches[w]
  byte c.mode.code ++ byte c.channel.val ++ sle16 c.low ++ sle16 c.high ++ le16 c.hysteresis ++ byte r.state.code ++
    yesNoByte r.latched ++ readingBytes r.last

/-- What a READ WATCH is answered (R176). -/
def answerReadWatch (body : List Byte) (s : State) : Answer :=
  if body.length ≠ 1 then Answer.refuse .badLength s
  else
    match watch? (u8 body 0) with
    | none => Answer.refuse .badField s
    | some w => Answer.ok s (s.watchFields w)

/-- READ WATCH request taken (R176). -/
def execReadWatch (s : State) : Host.Outcome State Fault Refusal := .next (s.takeRequest true 0x26#8 answerReadWatch)

end Sys2Proof.Machine
end

