-- ==== Sys2Proof/Machine/SeverityRequests.lean ====
section
/-! DEFINITION. The requests of the severity unit and of the globals: FORCE LEVEL, SET LADDER, SET CUTOFF, READ SEVERITY, SET
GLOBALS. -/

namespace Sys2Proof.Machine

/-! ### FORCE LEVEL (R58, R167) -/

/-- The host floor is set, the depth is formed (R58), and the sequencer considers a grant (R37). -/
def State.forceFloor (floor : Nat) (s : State) : State :=
  State.considerGrant (State.formDepth { s with sev := { s.sev with hostFloor := floor } })

/-- What a FORCE LEVEL is answered (R167). -/
def answerForceLevel (body : List Byte) (s : State) : Answer :=
  if body.length ≠ 1 then Answer.refuse .badLength s
  else if u8 body 0 ≤ 4 then
    let t := s.forceFloor (u8 body 0)
    Answer.ok t (byte t.sev.hostFloor ++ byte t.sev.depth ++ byte (contributorCode t.sev.contributor))
  else Answer.refuse .badField s

/-- FORCE LEVEL request taken (R167). -/
def execForceLevel (s : State) : Host.Outcome State Fault Refusal := .next (s.takeRequest true 0x18#8 answerForceLevel)

/-! ### SET LADDER (R69, R70, R168) -/

/-- The dynamic fields of a ladder by the change of its enabled field (R70). The configuration is replaced already
(log 19). -/
def State.resetLadder (k : LadderIx) (old new : LadderConfig) (s : State) : State :=
  let r := s.sev.ladders[k]
  match old.enabled, new.enabled with
  | false, false => s
  | false, true => s.setLadderRec k Ladder.reset
  | true, false =>
    if r.level = 0 then s.setLadderRec k { r with up := 0, down := 0, last := none }
    else s.changeLevel k 0 none { r with up := 0, down := 0, last := none }
  | true, true =>
    let last := if old.source = new.source then r.last else none
    if new.top < r.level then s.changeLevel k new.top none { r with up := 0, down := 0, last := last }
    else s.setLadderRec k { r with up := 0, down := 0, last := last }

/-- The ladder stays bound to the channel it was bound to. -/
def LadderConfig.keepsSource (old new : LadderConfig) : Bool :=
  old.enabled && new.enabled && decide (old.source = new.source)

/-- An accepted SET LADDER (R37, R70, R157). A ladder that it enables or gives a new source takes no reading that has arrived
already (R83). -/
def State.configureLadder (k : LadderIx) (c : LadderConfig) (s : State) : State :=
  let t : State := { s with
    ws := { s.ws with ladders := s.ws.ladders.set k c }
    scan := if s.ws.ladders[k].keepsSource c then s.scan else s.scan.unbindLadder k }
  State.considerGrant (State.formDepth (State.resetLadder k s.ws.ladders[k] c t.setDirty))

/-- What a SET LADDER is answered (R69, R168). -/
def answerSetLadder (body : List Byte) (s : State) : Answer :=
  if body.length ≠ 23 then Answer.refuse .badLength s
  else
    match ladder? (u8 body 0), LadderConfig.ofBody body with
    | some k, some c =>
      if c.enabled && !s.ws.scanList.contains c.source then Answer.refuse .badField s
      else
        let t := s.configureLadder k c
        Answer.ok t (byte t.sev.ladders[k].level ++ byte t.sev.depth)
    | none, _ => Answer.refuse .badField s
    | some _, none => Answer.refuse .badField s

/-- SET LADDER request taken (R168). -/
def execSetLadder (s : State) : Host.Outcome State Fault Refusal := .next (s.takeRequest true 0x19#8 answerSetLadder)

/-! ### SET CUTOFF (R64, R65, R169) -/

/-- A load in SHED that the working set does not shed at the present depth (R65). -/
def State.unshedWaits (s : State) : Bool :=
  allLoads.any (fun n => decide (s.loads[n].state = .shed) && !s.isShed n)

/-- Start or restart the restore hold timer (R66). -/
def State.startHold (s : State) : State :=
  { s with sev := { s.sev with hold := .running (s.ws.globals.restoreHold * 1000) } }

/-- An accepted SET CUTOFF (R37, R65, R157): the sheds take effect at once; the hold is started or restarted if a load in SHED is
not shed under the new table; the sequencer considers a grant. -/
def State.configureCutoff (table : Vector Nat 4) (s : State) : State :=
  let t := State.setDirty { s with ws := { s.ws with cutoff := table } }
  let u := t.eachLoad (newlyShed s.ws s.sev.depth t.ws s.sev.depth) State.shedLoad
  State.considerGrant (if u.unshedWaits then u.startHold else u)

/-- What a SET CUTOFF is answered (R169). -/
def answerSetCutoff (body : List Byte) (s : State) : Answer :=
  if body.length ≠ 4 then Answer.refuse .badLength s
  else
    match cutoffOfBody body with
    | none => Answer.refuse .badField s
    | some table => Answer.ok (s.configureCutoff table) []

/-- SET CUTOFF request taken (R169). -/
def execSetCutoff (s : State) : Host.Outcome State Fault Refusal := .next (s.takeRequest true 0x1A#8 answerSetCutoff)

/-! ### READ SEVERITY (R71, R170) -/

/-- Level, streaks and last reading of a ladder. -/
def Ladder.bytes (r : Ladder) : List Byte := byte r.level ++ byte r.up ++ byte r.down ++ readingBytes r.last

/-- Parts 0 to 3: a ladder's configuration in the form SET LADDER carries it, then its dynamic fields (R170; log 13). -/
def State.ladderFields (k : LadderIx) (s : State) : List Byte := s.ws.ladders[k].bytes ++ s.sev.ladders[k].bytes

/-- Part 4: the unit (R170). -/
def State.unitFields (s : State) : List Byte :=
  allLadders.flatMap (fun k => yesNoByte s.ws.ladders[k].enabled ++ s.sev.ladders[k].bytes) ++
    byte s.sev.depth ++ byte (contributorCode s.sev.contributor) ++ byte s.sev.hostFloor ++ yesNoByte s.sev.shedInput ++
    byte s.ws.globals.shedInputLevel ++ s.ws.cutoff.toList.flatMap byte ++ le16 s.ws.globals.restoreHold ++
    yesNoByte s.sev.hold.isRunning ++ le32 s.sev.hold.left ++ byte s.ws.globals.startCeiling

/-- What a READ SEVERITY is answered (R170). -/
def answerReadSeverity (body : List Byte) (s : State) : Answer :=
  if body.length ≠ 1 then Answer.refuse .badLength s
  else
    match ladder? (u8 body 0) with
    | some k => Answer.ok s (s.ladderFields k)
    | none => if u8 body 0 = 4 then Answer.ok s s.unitFields else Answer.refuse .badField s

/-- READ SEVERITY request taken (R170). -/
def execReadSeverity (s : State) : Host.Outcome State Fault Refusal :=
  .next (s.takeRequest true 0x1B#8 answerReadSeverity)

/-! ### SET GLOBALS (R155, R177) -/

/-- In UP the silence timer is restarted, or cancelled by a timeout of 0 (R155). -/
def State.retimeSilence (s : State) : State := if s.session.state = .up then s.restartSilence else s

/-- An accepted SET GLOBALS, in the order of R177: running timers keep the times they were started with, the depth is formed, the
sequencer considers a grant, and the silence timer follows. -/
def State.configureGlobals (g : Globals) (s : State) : State :=
  State.retimeSilence
    (State.considerGrant (State.formDepth (State.setDirty { s with ws := { s.ws with globals := g } })))

/-- What a SET GLOBALS is answered (R177). -/
def answerSetGlobals (body : List Byte) (s : State) : Answer :=
  if body.length ≠ 7 then Answer.refuse .badLength s
  else
    match Globals.ofBody body with
    | none => Answer.refuse .badField s
    | some g => Answer.ok (s.configureGlobals g) []

/-- SET GLOBALS request taken (R177). -/
def execSetGlobals (s : State) : Host.Outcome State Fault Refusal := .next (s.takeRequest true 0x28#8 answerSetGlobals)

end Sys2Proof.Machine
end

