-- ==== Sys2Proof/Machine/Dispatch.lean ====
section
/-! DEFINITION. The meaning of each command: one arm per row of spec/opcode_table.json. -/

namespace Sys2Proof.Machine

/-- The effect of a command on everything but the queue of waiting commands. -/
def exec (i : Instr) (s : State) : Host.Outcome State Fault Refusal :=
  match i with
  | .hello => Sys2Proof.Machine.execHello s
  | .grant => Sys2Proof.Machine.execGrant s
  | .ack => Sys2Proof.Machine.execAck s
  | .resend => Sys2Proof.Machine.execResend s
  | .snapshot => Sys2Proof.Machine.execSnapshot s
  | .demand => Sys2Proof.Machine.execDemand s
  | .clear => Sys2Proof.Machine.execClear s
  | .setLoad => Sys2Proof.Machine.execSetLoad s
  | .readLoad => Sys2Proof.Machine.execReadLoad s
  | .forceLevel => Sys2Proof.Machine.execForceLevel s
  | .setLadder => Sys2Proof.Machine.execSetLadder s
  | .setCutoff => Sys2Proof.Machine.execSetCutoff s
  | .readSeverity => Sys2Proof.Machine.execReadSeverity s
  | .setScan => Sys2Proof.Machine.execSetScan s
  | .setChannel => Sys2Proof.Machine.execSetChannel s
  | .readChannels => Sys2Proof.Machine.execReadChannels s
  | .setWatch => Sys2Proof.Machine.execSetWatch s
  | .ackWatch => Sys2Proof.Machine.execAckWatch s
  | .readWatch => Sys2Proof.Machine.execReadWatch s
  | .setGlobals => Sys2Proof.Machine.execSetGlobals s
  | .readSystem => Sys2Proof.Machine.execReadSystem s
  | .readLink => Sys2Proof.Machine.execReadLink s
  | .save => Sys2Proof.Machine.execSave s
  | .reset => Sys2Proof.Machine.execReset s
  | .badKindFrame => Sys2Proof.Machine.execBadKindFrame s
  | .byteArrival b stopError => Sys2Proof.Machine.execByteArrival b stopError s
  | .interbyteTimeout => Sys2Proof.Machine.execInterbyteTimeout s
  | .lineFrees => Sys2Proof.Machine.execLineFrees s
  | .powerOnReset => Sys2Proof.Machine.execPowerOnReset s
  | .pinReset => Sys2Proof.Machine.execPinReset s
  | .resetEnd br1 br0 asInh => Sys2Proof.Machine.execResetEnd br1 br0 asInh s
  | .profileSelection asInh => Sys2Proof.Machine.execProfileSelection asInh s
  | .readingArrival raw => Sys2Proof.Machine.execReadingArrival raw s
  | .pauseExpiry => Sys2Proof.Machine.execPauseExpiry s
  | .ladderEvaluation => Sys2Proof.Machine.execLadderEvaluation s
  | .watchEvaluation => Sys2Proof.Machine.execWatchEvaluation s
  | .loadReading => Sys2Proof.Machine.execLoadReading s
  | .startGrant => Sys2Proof.Machine.execStartGrant s
  | .settleExpiry n => Sys2Proof.Machine.execSettleExpiry n s
  | .cleanRunExpiry n => Sys2Proof.Machine.execCleanRunExpiry n s
  | .backoffExpiry n => Sys2Proof.Machine.execBackoffExpiry n s
  | .gapExpiry => Sys2Proof.Machine.execGapExpiry s
  | .restoreHoldExpiry => Sys2Proof.Machine.execRestoreHoldExpiry s
  | .silenceExpiry => Sys2Proof.Machine.execSilenceExpiry s
  | .saveEnd verified => Sys2Proof.Machine.execSaveEnd verified s
  | .pgPinChange n level => Sys2Proof.Machine.execPgPinChange n level s
  | .pgQualified n => Sys2Proof.Machine.execPgQualified n s
  | .killPinChange level => Sys2Proof.Machine.execKillPinChange level s
  | .killQualified => Sys2Proof.Machine.execKillQualified s
  | .shedPinChange level => Sys2Proof.Machine.execShedPinChange level s
  | .shedQualified => Sys2Proof.Machine.execShedQualified s
  | .powerLoss => Sys2Proof.Machine.execPowerLoss s

end Sys2Proof.Machine
end

