-- ==== Sys2Proof/Machine/Idle.lean ====
section
/-! DEFINITION. Which step the part takes of its own accord when no command waits (log 1): a grant that is due (R36), a reading
that waits at its destination (R82), a timer whose time has fully passed (R1), a request that may be taken (R141). -/

namespace Sys2Proof.Machine

/-- The stated time of the timer has fully passed (R1). -/
def Timer.isDue : Timer → Bool
  | .running 0 => true
  | .running (_ + 1) => false
  | .overdue => true
  | .stopped => false

/-- The row of the table that takes a frame of this kind (R204). -/
def requestOf (kind : Byte) : Instr :=
  match ([(0x01, .hello), (0x02, .grant), (0x03, .ack), (0x04, .resend), (0x05, .snapshot), (0x10, .demand), (0x11, .clear),
      (0x12, .setLoad), (0x13, .readLoad), (0x18, .forceLevel), (0x19, .setLadder), (0x1A, .setCutoff),
      (0x1B, .readSeverity), (0x20, .setScan), (0x21, .setChannel), (0x22, .readChannels), (0x24, .setWatch),
      (0x25, .ackWatch), (0x26, .readWatch), (0x28, .setGlobals), (0x29, .readSystem), (0x2A, .readLink), (0x30, .save),
      (0x3E, .reset)] : List (Byte × Instr)).find? (fun p => decide (p.1 = kind)) with
  | some p => p.2
  | none => .badKindFrame

/-- The request that may be taken: the oldest entry of the inbound queue (R141). -/
def State.dueRequest (s : State) : Option Instr :=
  match s.link.inbound with
  | [] => none
  | f :: _ => if s.canTake then some (requestOf f.kind) else none

/-- A save in flight is due to end (R187). -/
def Profile.saveDue (p : Profile) : Bool :=
  match p.save with
  | some v => v.timer.isDue
  | none => false

/-- The timer expiries that are due. Whether the read-back of a save agrees is the free choice (log 1). -/
def State.dueExpiries (s : State) : List (Bool × Instr) :=
  allLoads.map (fun n => (decide (s.loads[n].state = .starting) && s.loads[n].settle.isDue, Instr.settleExpiry n)) ++
    allLoads.map (fun n => (decide (s.loads[n].state = .on) && s.loads[n].cleanRun.isDue, Instr.cleanRunExpiry n)) ++
    allLoads.map (fun n => (decide (s.loads[n].state = .tripped) && s.loads[n].backoff.isDue, Instr.backoffExpiry n)) ++
    allLoads.map (fun n => (s.quals.pg[n].timer.isDue, Instr.pgQualified n)) ++
    [(s.quals.kill.timer.isDue, .killQualified), (s.quals.shed.timer.isDue, .shedQualified),
      (s.seq.gap.isDue, .gapExpiry), (s.sev.hold.isDue, .restoreHoldExpiry),
      (decide (s.scan.state = .paused) && s.scan.pause.isDue, .pauseExpiry),
      (s.link.interbyte.isDue, .interbyteTimeout),
      (decide (s.session.state = .up) && s.session.silence.isDue, .silenceExpiry),
      (decide (s.phase = .selecting) && s.startup.isDue, .profileSelection s.prof.straps.asInh),
      (s.prof.saveDue, .saveEnd (Config.readBackAgrees s.choices))]

/-- The step that is due, if any: the grant first, then the readings handed on, then the expiries, then a request. -/
def State.dueStep (s : State) : Option Instr :=
  match ([(s.grantDue, Instr.startGrant), (!s.scan.toLadders.isEmpty, .ladderEvaluation),
      (!s.scan.toWatches.isEmpty, .watchEvaluation), (!s.scan.toLoads.isEmpty, .loadReading)] ++ s.dueExpiries).find?
      (fun p => p.1) with
  | some p => some p.2
  | none => s.dueRequest

end Sys2Proof.Machine
end

