-- ==== Sys2Proof/Safety.lean ====
section
/-! DEFINITION. What counts as a safe state of the S1624: one predicate per block, each a law the manual states of the block's
state in running text. Claims use them as premises and as the invariants that every step keeps. All are plain data checks. -/

namespace Sys2Proof.Safety

open Sys2Proof.Machine

/-! ### Reset (R190, R191) -/

/-- A qualifier that holds its reset state: deasserted, no qualification time running (R14, R196). -/
abbrev Qualifier.atReset (q : Qualifier) : Prop := q.qualified = false ∧ q.timer = .stopped

/-- The blocks that start-up has not yet set going stand at their reset values (R190, R191). -/
abbrev BlocksAtReset (s : State) : Prop :=
  s.loads = Vector.replicate 16 LoadRec.reset ∧ s.seq = Sequencer.reset ∧ s.sev = Severity.reset ∧
    s.scan = Scanner.reset ∧ s.watches = Vector.replicate 16 WatchRec.reset ∧ s.store = Store.reset ∧
    s.session = Session.reset s.session.cause ∧ s.link.replies = [] ∧ s.link.tx = .idle ∧
    s.prof.known0 = none ∧ s.prof.known1 = none ∧ s.prof.active = none ∧ s.prof.generation = 0 ∧
    s.prof.dirty = false ∧ s.prof.save = none

/-- Nothing runs while a reset is held (R138, R190, R191). -/
abbrev NothingRuns (s : State) : Prop :=
  s.timeBase = 0 ∧ s.startup = .stopped ∧ s.link = Link.reset ∧ Qualifier.atReset s.quals.kill ∧
    Qualifier.atReset s.quals.shed ∧ ∀ n : LoadIx, Qualifier.atReset s.quals.pg[n]

/-- Until start-up ends every block but the receiver and the qualifiers stands at its reset values; while a reset is held
nothing runs at all; the receiver is enabled from the first step of start-up on, and the 30 ms of the second step run until the
end of start-up (R138, R190 to R195). -/
abbrev ResetOk (s : State) : Prop :=
  (s.phase ≠ .running → BlocksAtReset s) ∧
    (s.phase = .held ∨ s.phase = .unpowered → NothingRuns s) ∧
    (s.phase = .selecting → s.link.rxEnabled = true ∧ s.startup.isRunning = true) ∧
    (s.phase = .running → s.link.rxEnabled = true ∧ s.startup = .stopped)

/-! ### Configuration and profile (R182 to R187, R193) -/

/-- Every enabled ladder and every active watch stands on a channel of the scan list (R83, R193). -/
abbrev ChannelsScanned (w : WorkingSet) : Prop :=
  (∀ k : LadderIx, w.ladders[k].enabled = true → w.ladders[k].source ∈ w.scanList) ∧
    ∀ i : WatchIx, w.watches[i].mode ≠ .off → w.watches[i].channel ∈ w.scanList

/-- A working set that satisfies every check that the SET requests make (R193). -/
abbrev WorkingSetOk (w : WorkingSet) : Prop := w.ok = true ∧ ChannelsScanned w

/-- The image that a nonvolatile slot holds under a CRC that agrees (R183). -/
def heldImage : NvSlot → Option WorkingSet
  | .blank => none
  | .torn => none
  | .written _ image => some image

/-- The working set, the image of a save in flight and the images of the nonvolatile slots were each accepted (R183, R193). -/
abbrev ConfigOk (s : State) : Prop :=
  WorkingSetOk s.ws ∧ (∀ w ∈ heldImage s.prof.slot0, WorkingSetOk w) ∧
    (∀ w ∈ heldImage s.prof.slot1, WorkingSetOk w) ∧ ∀ v ∈ s.prof.save, WorkingSetOk v.image

/-- The active slot holds a VALID image under the active generation, and a save in flight has torn the other slot (R184, R186). -/
abbrev ProfileOk (s : State) : Prop :=
  (∀ n ∈ s.prof.active, s.prof.known n = .valid s.prof.generation) ∧
    (s.prof.active = none → s.prof.generation = 0) ∧
    (s.phase = .running →
      s.prof.known0 = some s.prof.slot0.judge ∧ s.prof.known1 = some s.prof.slot1.judge) ∧
    ∀ v ∈ s.prof.save,
      v.target = nextTarget s.prof.active ∧ v.generation = nextGeneration s.prof.generation ∧
        s.prof.slot v.target = .torn ∧ s.prof.known v.target = .invalid ∧ v.timer.isRunning = true ∧ v.timer.left ≤ 45

/-! ### Report store (R102 to R111) -/

/-- A record of a SNAPSHOT report. -/
def isSnapshot : Payload → Bool
  | .snapshot _ => true
  | .reset _ _ | .profileLoaded _ _ _ _ | .loadState _ _ _ _ _ _ | .level _ _ _ _ _ | .depth _ _ _
  | .watch _ _ _ _ _ _ _ _ | .sensor _ _ _ _ | .kill _ | .shedInput _ _ | .hostLost _ | .hostReturned _ _
  | .profileSaved _ _ | .saveFailed _ _ | .loss _ => false

/-- The records are whole reports, from FIRST to LAST: one record with both marks, or the three of a SNAPSHOT (R103, R107). -/
def wholeRun : List Record → Bool
  | [] => true
  | [a] => a.first && a.last && !isSnapshot a.payload
  | [a, b] => a.first && a.last && !isSnapshot a.payload && b.first && b.last && !isSnapshot b.payload
  | a :: b :: c :: rest =>
    if isSnapshot a.payload then
      a.first && !a.last && isSnapshot b.payload && !b.first && !b.last && isSnapshot c.payload && !c.first && c.last &&
        wholeRun rest
    else a.first && a.last && wholeRun (b :: c :: rest)

/-- The records carry consecutive numbers, the newest one less than the counter (R106). -/
def numberedUpTo (counter : Word) : List Record → Bool
  | [] => true
  | r :: rest => decide (r.number + BitVec.ofNat 16 (rest.length + 1) = counter) && numberedUpTo counter rest

/-- First the SENT records, then the POSTED ones (R106). -/
def sentFirst : List Record → Bool
  | [] => true
  | r :: rest => (r.sent || rest.all (fun x => !x.sent)) && sentFirst rest

/-- The laws of the report store: at most 64 records (R102), in one run of consecutive numbers (R106), of whole reports (R107),
each of 24 bytes (R201), credits plus SENT records at most 64 (R111), and a lost count above 0 only while no slot is FREE
(R109). -/
abbrev StoreOk (st : Store) : Prop :=
  st.records.length ≤ 64 ∧ numberedUpTo st.counter st.records = true ∧ sentFirst st.records = true ∧ wholeRun st.records = true ∧
    (∀ r ∈ st.records, r.bytes.length = 24) ∧ st.credits + st.sentCount ≤ 64 ∧
    (0 < st.lost → st.records.length = 64) ∧ st.lost ≤ 65535

/-! ### Loads and start sequencer (R3, R19, R26, R31 to R35) -/

/-- The laws of one load record: which timers, streaks and entry number its state allows (R3, R9 to R24), its retries against
its budget (R19), its demand against its state (R7, R9, R24), and that an unfitted load is never out of OFF (R2). -/
abbrev LoadOk (c : LoadConfig) (r : LoadRec) : Prop :=
  (r.settle.isRunning = true ↔ r.state = .starting) ∧ (r.backoff.isRunning = true ↔ r.state = .tripped) ∧
    (r.cleanRun.isRunning = true → r.state = .on) ∧ (r.entry.isSome = true ↔ r.state = .queued) ∧
    (r.state ≠ .starting → r.state ≠ .on → r.overStreak = 0 ∧ r.senseStreak = 0) ∧
    (r.overStreak = 0 ∨ r.overStreak < c.confirm) ∧ r.senseStreak ≤ 7 ∧
    (r.state ≠ .locked → r.retries ≤ c.budget) ∧ (r.state = .locked → r.retries = c.budget + 1) ∧
    (r.state = .off → r.demand = false) ∧
    (r.state = .queued ∨ r.state = .starting ∨ r.state = .on ∨ r.state = .shed → r.demand = true) ∧
    (r.state ≠ .off → c.fitted = true) ∧ (r.state = .tripped ∨ r.state = .locked → r.tripCause.isSome = true)

/-- The start queue holds each QUEUED load exactly once and no other, under its priority and its entry number, lowest priority
value first (R32, R33). -/
abbrev QueueOk (s : State) : Prop :=
  (s.seq.queue.map (·.load)).Nodup ∧ (s.seq.queue.map (·.priority)).Pairwise (· ≤ ·) ∧
    (∀ e ∈ s.seq.queue, s.loads[e.load].state = .queued ∧ s.loads[e.load].entry = some e.number ∧
      e.priority = s.ws.loads[e.load].priority) ∧
    ∀ n : LoadIx, s.loads[n].state = .queued → n ∈ s.seq.queue.map (·.load)

/-- The laws of the load controller and the start sequencer: each record lawful, the queue lawful, the start slot held by the
load in STARTING and by no other (R35), no gap while it is held (R40), and no demand ON under KILL (R26). -/
abbrev LoadsOk (s : State) : Prop :=
  (∀ n : LoadIx, LoadOk s.ws.loads[n] s.loads[n]) ∧ QueueOk s ∧
    (∀ n : LoadIx, s.loads[n].state = .starting ↔ s.seq.slot = some n) ∧
    (s.seq.slot.isSome = true → s.seq.gap = .stopped) ∧
    (s.quals.kill.qualified = true → ∀ n : LoadIx, s.loads[n].demand = false)

/-! ### Severity unit (R5, R49, R59, R60) -/

/-- The six contributions in the order of R60. -/
def contributions (s : State) : List (Contributor × Nat) :=
  allLadders.map (fun k => (Contributor.ladder k, if s.ws.ladders[k].enabled then s.sev.ladders[k].level else 0)) ++
    [(.shedInput, if s.sev.shedInput then s.ws.globals.shedInputLevel else 0), (.hostFloor, s.sev.hostFloor)]

/-- The greatest of the contributions (R59). -/
def greatest (s : State) : Nat := (contributions s).foldl (fun m c => max m c.2) 0

/-- The first contributor in order whose contribution equals the depth, NONE at depth 0 (R60). -/
def contributorAt (s : State) (d : Nat) : Option Contributor :=
  if d = 0 then none else ((contributions s).find? (fun c => decide (c.2 = d))).map (·.1)

/-- The laws of one ladder: a level up to its top level, streaks below its confirm count and never both (R49, R54); a disabled
ladder at its reset values (R49, R70). -/
abbrev LadderOk (c : LadderConfig) (r : Ladder) : Prop :=
  (c.enabled = false → r = Ladder.reset) ∧ r.level ≤ c.top ∧ (r.up = 0 ∨ r.up < c.confirm) ∧
    (r.down = 0 ∨ r.down < c.confirm) ∧ (r.up = 0 ∨ r.down = 0)

/-- The laws of the severity unit: the depth is the greatest contribution (R59, R71) with its contributor (R60), the host floor
is 0 to 4 (R58), the qualified SHED state is the one handed on (R198), and no load shed at the depth is QUEUED, STARTING or ON
(R5). -/
abbrev SeverityOk (s : State) : Prop :=
  (∀ k : LadderIx, LadderOk s.ws.ladders[k] s.sev.ladders[k]) ∧ s.sev.hostFloor ≤ 4 ∧ s.sev.depth = greatest s ∧
    s.sev.contributor = contributorAt s s.sev.depth ∧
    (s.phase = .running → s.sev.shedInput = s.quals.shed.qualified) ∧
    ∀ n : LoadIx, s.isShed n = true →
      s.loads[n].state ≠ .queued ∧ s.loads[n].state ≠ .starting ∧ s.loads[n].state ≠ .on

/-! ### Scanner (R74, R76, R84) -/

/-- The laws of the scanner: it is STOPPED only until start-up ends, converts the channel under its cursor unless a new list
made it start over, and pauses at entry 0 with its timer running (R76, R86); a channel not read stands at its reset record, an
invalid one shows no reading (R74); and priming waits only for an unread channel of the list (R84). -/
abbrev ScannerOk (s : State) : Prop :=
  (s.phase = .running → s.scan.state ≠ .stopped) ∧
    (∀ ch, s.scan.state = .converting ch false → s.ws.scanList[s.scan.cursor]? = some ch) ∧
    (∀ ch, s.scan.state = .converting ch true → s.scan.cursor = 0) ∧
    (s.scan.pause.isRunning = true ↔ s.scan.state = .paused) ∧ (s.scan.state = .paused → s.scan.cursor = 0) ∧
    (∀ c : ChanIx, (s.scan.records[c].read = false → s.scan.records[c] = ChannelRec.reset) ∧
      (s.scan.records[c].valid = false → s.scan.records[c].latest = none)) ∧
    (s.scan.primed = false → ∃ c ∈ s.ws.scanList, s.scan.records[c].read = false)

/-! ### Watch unit (R90 to R96) -/

/-- Where a watch stands against its window agrees with the last reading it took (R90, R92 to R94). -/
def watchPlaced (c : WatchConfig) (r : WatchRec) : Bool :=
  match r.state, r.last with
  | .pending, none => true
  | .fault, none => true
  | .inside, some v => decide (c.low ≤ v) && decide (v ≤ c.high)
  | .above, some v => decide (c.high - c.hysteresis < v)
  | .below, some v => decide (v < c.low + c.hysteresis)
  | .pending, some _ | .fault, some _ | .inside, none | .above, none | .below, none => false

/-- The laws of one watch: its place, its latched flag only in LATCHED and not in PENDING, and a watch in OFF at its reset values
(R90, R95, R96). -/
abbrev WatchOk (c : WatchConfig) (r : WatchRec) : Prop :=
  watchPlaced c r = true ∧ (c.mode = .off → r = WatchRec.reset) ∧
    (r.latched = true → c.mode = .latched ∧ r.state ≠ .pending)

/-- The laws of the watch unit. -/
abbrev WatchesOk (s : State) : Prop := ∀ w : WatchIx, WatchOk s.ws.watches[w] s.watches[w]

/-! ### Link interface and session unit (R128 to R137, R139 to R151) -/

/-- The framer holds no more than a frame may (R128). -/
def framerFits : Framer → Bool
  | .hunt => true
  | .length => true
  | .header len _ => decide (len ≤ 96)
  | .body len _ _ bytes => decide (bytes.length < len) && decide (len ≤ 96)
  | .check _ _ bytes _ => decide (bytes.length ≤ 96)

/-- What the framer holds fits a frame (R128), and its interbyte timer runs exactly while a frame is open (R129). -/
abbrev FramerOk (l : Link) : Prop :=
  framerFits l.framer = true ∧ (l.framer = .hunt ↔ l.interbyte = .stopped)

/-- The reply frames that wait or are on the line, oldest first. -/
def repliesInOrder (l : Link) : List Reply :=
  match l.tx with
  | .reply r => r :: l.replies
  | .idle => l.replies
  | .report _ => l.replies

/-- The laws of the link interface and the session unit: queues of at most 2 (R132, R134) and a cache of at most 4 entries with
distinct tags (R151); every queued request a good frame (R131); every reply body at most 96 bytes (R133); no frame left waiting
by an IDLE transmitter (R135); the silence timer only in UP (R147); an empty cache in DOWN (R145); counters up to 65535
(R137). -/
abbrev LinkOk (s : State) : Prop :=
  FramerOk s.link ∧ s.link.inbound.length ≤ 2 ∧
    (∀ f ∈ s.link.inbound, f.body.length ≤ 96 ∧ f.crc = frameCrc f.kind f.tag f.body) ∧ s.link.replies.length ≤ 2 ∧
    (∀ r ∈ repliesInOrder s.link, r.frame.body.length ≤ 96) ∧
    (s.link.tx = .idle → s.link.replies = [] ∧ (s.store.credits = 0 ∨ ∀ r ∈ s.store.records, r.sent = true)) ∧
    s.session.cache.length ≤ 4 ∧ (s.session.cache.map (·.tag)).Nodup ∧
    (∀ e ∈ s.session.cache, e.reply.tag = e.tag ∧ e.reply.body.length ≤ 96) ∧
    (s.session.silence.isRunning = true → s.session.state = .up) ∧
    (s.session.state = .down → s.session.cache = []) ∧
    s.link.stats.accepted ≤ 65535 ∧ s.link.stats.dropped ≤ 65535 ∧ s.link.stats.length ≤ 65535 ∧
    s.link.stats.timeout ≤ 65535 ∧ s.link.stats.framing ≤ 65535 ∧ s.link.stats.crc ≤ 65535

/-- A safe state: every block keeps its laws. -/
abbrev Safe (s : State) : Prop :=
  ResetOk s ∧ ConfigOk s ∧ ProfileOk s ∧ StoreOk s.store ∧ LoadsOk s ∧ SeverityOk s ∧ ScannerOk s ∧ WatchesOk s ∧ LinkOk s

end Sys2Proof.Safety
end

