-- ==== Sys2Proof/Certificates/Slice0/Obligations.lean ====
section
/-! DEFINITION. The statements for the provers, and the words they are said in: what the manual makes of a state at a command,
written a second time in closed form, beside the meanings they are held against. -/

namespace Sys2Proof.Claims

open Sys2Proof.Machine Sys2Proof.Safety

/-! ### The line (R113, R135, R136) -/

/-- t is u after the transmitter, IDLE, has started the report frame of the oldest POSTED record: the record is SENT and one credit
is spent (R113). -/
def ReportStarted (u t : State) : Prop :=
  u.link.tx = .idle ∧ 0 < u.store.credits ∧
    ∃ older r newer, u.store.records = older ++ r :: newer ∧ (∀ x ∈ older, x.sent = true) ∧ r.sent = false ∧
      t = { u with
        link := { u.link with tx := .report (reportFrame r) }
        store := { u.store with
          records := older ++ { r with sent := true } :: newer
          credits := u.store.credits - 1 } }

/-- t is u after the transmitter's choice (R135): while it is SENDING nothing; while IDLE the frame of the oldest reply, otherwise
a report frame, otherwise nothing. -/
def LineTaken (u t : State) : Prop :=
  (u.link.tx ≠ .idle ∧ t = u) ∨
    (∃ r rest, u.link.tx = .idle ∧ u.link.replies = r :: rest ∧
      t = { u with link := { u.link with tx := .reply r, replies := rest } }) ∨
    (u.link.replies = [] ∧ ReportStarted u t) ∨
    (u.link.tx = .idle ∧ u.link.replies = [] ∧
      (u.store.credits = 0 ∨ ∀ r ∈ u.store.records, r.sent = true) ∧ t = u)

/-- t is u after this reply was queued and the transmitter made its choice (R134, R135). -/
def ReplyQueued (frame : Frame) (resets : Bool) (u t : State) : Prop :=
  LineTaken { u with link := { u.link with replies := u.link.replies ++ [{ frame := frame, resets := resets }] } } t

/-! ### Taking a request (R132, R141, R142) -/

/-- All five conditions of R36 hold: a grant is due. -/
abbrev GrantDue (s : State) : Prop :=
  s.seq.slot = none ∧ s.seq.gap = .stopped ∧ s.scan.primed = true ∧ s.sev.depth ≤ s.ws.globals.startCeiling ∧
    s.seq.queue ≠ []

/-- A frame of a kind that satisfies `isKind` is the oldest entry of the inbound queue, the session unit may take it (R141), and no
grant is due that must be made before it (2-7). -/
abbrev MayTake (isKind : Byte → Prop) (f : Frame) (s : State) : Prop :=
  s.link.inbound.head? = some f ∧ isKind f.kind ∧ s.session.taking = true ∧ s.link.replies.length < 2 ∧ ¬ GrantDue s

/-- The oldest entry has left the inbound queue (R132). -/
def taken (s : State) : State := { s with link := { s.link with inbound := s.link.inbound.tail } }

/-- A request of this kind reaches step 5 of R142: it may be taken, the session is not DOWN, and it repeats no entry of the reply
cache. -/
abbrev MayExecute (kind : Byte) (f : Frame) (s : State) : Prop :=
  MayTake (· = kind) f s ∧ s.session.state ≠ .down ∧ ∀ e ∈ s.session.cache, ¬ (e.tag = f.tag ∧ e.crc = f.crc)

/-- The frame of the reply to a request (R133). -/
def replyTo (f : Frame) (body : List Byte) : Frame := mkFrame (f.kind + 0x40#8) f.tag body

/-- The reply cache after a request was executed: its entry is the one written last, in the place of the entry of its tag, or,
where 4 others stand, of the one written longest ago (R152). -/
def cacheWith (f : Frame) (body : List Byte) (cache : List CacheEntry) : List CacheEntry :=
  let others := cache.filter (fun e => decide (e.tag ≠ f.tag))
  (if others.length < 4 then others else others.tail) ++ [{ tag := f.tag, crc := f.crc, reply := replyTo f body }]

/-- u with the request's entry in its cache. -/
def cached (f : Frame) (body : List Byte) (u : State) : State :=
  { u with session := { u.session with cache := cacheWith f body u.session.cache } }

/-- t is what an executed request leaves: `own` is the state in which its effect leaves every block; a report may have started
before its reply was queued where the line was free (R136; log 7); its reply entered the cache and was queued (R134, R152). -/
def Executed (f : Frame) (body : List Byte) (resets : Bool) (own t : State) : Prop :=
  ∃ (k : Nat) (u : State),
    (u = { own with choices := k } ∨ (own.link.replies = [] ∧ ReportStarted { own with choices := k } u)) ∧
      ReplyQueued (replyTo f body) resets (cached f body u) t

/-- As `Executed`, but no report starts before the reply is queued (R112). -/
def ExecutedReplyFirst (f : Frame) (body : List Byte) (own t : State) : Prop :=
  ReplyQueued (replyTo f body) false (cached f body own) t

/-! ### The report store (R107) -/

/-- Reports of one record, posted in this order. -/
def postAll (time : DWord) (ps : List Payload) (st : Store) : Store := ps.foldl (fun st p => st.post time [p]) st

/-- A record as it is posted (R103, R114). -/
def newRecord (time : DWord) (number : Word) (first last : Bool) (p : Payload) : Record :=
  { number := number, first := first, last := last, resent := false, timestamp := time, payload := p, sent := false }

/-- The store with a LOSS report of this count in its next FREE slot (R109). -/
def withLoss (time : DWord) (count : Nat) (st : Store) : Store :=
  { st with
    records := st.records ++ [newRecord time st.counter true true (.loss count)]
    counter := st.counter + 1
    lost := 0 }

/-! ### Loads (R9, R19, R24 to R26, R32 to R34, R40) -/

/-- A load record that leaves QUEUED, STARTING, ON or SHED for another state (R9, R24): the entry number is absent; the settle or
clean-run timer is cancelled and both streaks are cleared. -/
def leftFor (new : LoadState) (r : LoadRec) : LoadRec :=
  match r.state with
  | .queued => { r with state := new, entry := none }
  | .starting => { r with state := new, settle := .stopped, overStreak := 0, senseStreak := 0 }
  | .on => { r with state := new, cleanRun := .stopped, overStreak := 0, senseStreak := 0 }
  | .off | .shed | .tripped | .locked => { r with state := new }

/-- The sequencer after these loads left their states: the QUEUED among them have left the queue, which closes up (R34); if one was
in STARTING, the slot is free and the gap timer runs for the start gap, unless that is 0 (R40, R42). -/
def seqWithout (gone : List LoadIx) (s : State) : Sequencer :=
  let released := gone.any (fun n => decide (s.loads[n].state = .starting))
  { s.seq with
    queue := s.seq.queue.filter (fun e => !(gone.contains e.load && decide (s.loads[e.load].state = .queued)))
    slot := if released then none else s.seq.slot
    gap := if released && decide (0 < s.ws.globals.startGap) then .running (s.ws.globals.startGap * 10) else s.seq.gap }

/-- The states a demand OFF takes a load out of (R9). -/
def demandOffMoves : LoadState → Bool
  | .queued | .starting | .on | .shed => true
  | .off | .tripped | .locked => false

/-- The states a shed takes a load out of (R24). -/
def shedMoves : LoadState → Bool
  | .queued | .starting | .on => true
  | .off | .shed | .tripped | .locked => false

/-- Demand OFF to these loads, in this order (R9). -/
def withDemandOff (cause : Cause) (ns : List LoadIx) (s : State) : State :=
  let moved := ns.filter (fun n => demandOffMoves s.loads[n].state)
  { s with
    loads := Vector.ofFn fun n =>
      if moved.contains n then { leftFor .off s.loads[n] with demand := false }
      else if ns.contains n then { s.loads[n] with demand := false } else s.loads[n]
    seq := seqWithout moved s
    store := postAll s.timeBase
      (moved.map fun n => .loadState n s.loads[n].state .off cause s.loads[n].retries (s.lastCurrent n)) s.store }

/-- These loads become shed, in this order (R24). -/
def withShed (ns : List LoadIx) (s : State) : State :=
  let moved := ns.filter (fun n => shedMoves s.loads[n].state)
  { s with
    loads := Vector.ofFn fun n => if moved.contains n then leftFor .shed s.loads[n] else s.loads[n]
    seq := seqWithout moved s
    store := postAll s.timeBase
      (moved.map fun n => .loadState n s.loads[n].state .shed .shed s.loads[n].retries (s.lastCurrent n)) s.store }

/-- The entry number of the load that joins the queue as the i-th of one event, counted from 0 (R32, R46). -/
def entryNumber (s : State) (i : Nat) : Word := s.seq.counter + BitVec.ofNat 16 i

/-- An entry joins: behind every entry at the front whose priority value is lower than or equal to its own, ahead of the first
that has a higher one (R33). -/
def placed (e : QueueEntry) : List QueueEntry → List QueueEntry
  | [] => [e]
  | x :: rest => if x.priority ≤ e.priority then x :: placed e rest else e :: x :: rest

/-- The sequencer after these loads joined the queue in this order (R32, R33). -/
def seqWith (ns : List LoadIx) (s : State) : Sequencer :=
  { s.seq with
    queue := ns.zipIdx.foldl
      (fun q p => placed { load := p.1, priority := s.ws.loads[p.1].priority, number := entryNumber s p.2 } q) s.seq.queue
    counter := entryNumber s ns.length }

/-- The head of the queue is granted the start slot (R10, R38). -/
def granted (e : QueueEntry) (rest : List QueueEntry) (s : State) : State :=
  let r := s.loads[e.load]
  { s with
    loads := s.loads.set e.load
      { r with
        state := .starting, entry := none, overStreak := 0, senseStreak := 0,
        settle := .running (s.ws.loads[e.load].settle * 10) }
    seq := { s.seq with queue := rest, slot := some e.load }
    store := s.store.post s.timeBase [.loadState e.load .queued .starting .grant r.retries (s.lastCurrent e.load)] }

/-- The part after the consideration of a grant: the head of the queue is granted where all five conditions hold (R36, R37). -/
def withGrant (s : State) : State :=
  match s.seq.queue with
  | [] => s
  | e :: rest => if GrantDue s then granted e rest s else s

/-- Demand ON to these fitted loads, in this order, while KILL is deasserted (R7, R8). -/
def withDemandOn (cause : Cause) (ns : List LoadIx) (s : State) : State :=
  let moved := ns.filter (fun n => decide (s.loads[n].state = .off))
  let joins := moved.filter (fun n => !s.isShed n)
  { s with
    loads := Vector.ofFn fun n =>
      if moved.contains n then
        if s.isShed n then { s.loads[n] with demand := true, state := .shed }
        else { s.loads[n] with demand := true, state := .queued, entry := some (entryNumber s (joins.idxOf n)) }
      else if ns.contains n && decide (s.loads[n].state = .tripped) then { s.loads[n] with demand := true }
      else s.loads[n]
    seq := seqWith joins s
    store := postAll s.timeBase
      (moved.map fun n =>
        .loadState n .off (if s.isShed n then .shed else .queued) cause s.loads[n].retries (s.lastCurrent n)) s.store }

/-- The restore hold is over (R25, R67). -/
def withRestored (s : State) : State :=
  let joins := allLoads.filter (fun n => decide (s.loads[n].state = .shed) && !s.isShed n)
  { s with
    loads := Vector.ofFn fun n =>
      if joins.contains n then { s.loads[n] with state := .queued, entry := some (entryNumber s (joins.idxOf n)) }
      else s.loads[n]
    seq := seqWith joins s
    store := postAll s.timeBase
      (joins.map fun n => .loadState n .shed .queued .restore s.loads[n].retries (s.lastCurrent n)) s.store }

/-- Load n in STARTING or ON trips (R19). -/
def withTrip (cause : TripCause) (n : LoadIx) (s : State) : State :=
  let retries := s.loads[n].retries + 1
  let locks := decide (s.ws.loads[n].budget < retries)
  let r := leftFor (if locks then .locked else .tripped) s.loads[n]
  { s with
    loads := s.loads.set n
      { r with
        retries := retries
        tripCause := some cause
        backoff := if locks then r.backoff else .running (s.ws.loads[n].backoff * 1000) }
    seq := seqWithout [n] s
    store := s.store.post s.timeBase
      [.loadState n s.loads[n].state (if locks then .locked else .tripped) (.trip cause) retries (s.lastCurrent n)] }

/-! ### The shed depth (R59 to R62) -/

/-- The depth is formed (R59): its contributor always (R60); on a change one DEPTH report; on a rise the restore hold is cancelled
and the loads newly shed act (R61); on a fall the restore hold runs anew (R62). -/
def withDepth (s : State) : State :=
  let d := greatest s
  let c := contributorAt s d
  if d = s.sev.depth then { s with sev := { s.sev with contributor := c } }
  else if s.sev.depth < d then
    withShed (allLoads.filter fun n => s.ws.shedAt d n && !s.ws.shedAt s.sev.depth n)
      { s with
        sev := { s.sev with depth := d, contributor := c, hold := .stopped }
        store := s.store.post s.timeBase [.depth s.sev.depth d c] }
  else
    { s with
      sev := { s.sev with depth := d, contributor := c, hold := .running (s.ws.globals.restoreHold * 1000) }
      store := s.store.post s.timeBase [.depth s.sev.depth d c] }

/-- The highest of these numbers, or 0. -/
def highestOf (ks : List Nat) : Nat := ks.foldl max 0

/-- U of R52, and of R55 for an invalid reading. -/
def upOf (c : LadderConfig) : Reading → Nat
  | some v => highestOf ((List.range' 1 c.top).filter fun k => c.direction.beyond v (c.enterAt k))
  | none => c.fault

/-- D of R53, and of R55 for an invalid reading. -/
def downOf (c : LadderConfig) (level : Nat) : Reading → Nat
  | some v => highestOf ((List.range' 1 (level - 1)).filter fun k => !c.direction.cleared v (c.exitAt k))
  | none => c.fault

/-- The reading is one of R53, or of R55 with F below L. -/
def fallsBelow (c : LadderConfig) (level : Nat) : Reading → Bool
  | some v => decide (1 ≤ level) && c.direction.cleared v (c.exitAt level)
  | none => decide (c.fault < level)

/-- The dynamic fields of an enabled ladder after a reading of its source (R51 to R55). -/
def ladderAfter (c : LadderConfig) (r : Ladder) (reading : Reading) : Ladder :=
  if r.level < upOf c reading then
    if r.up + 1 < c.confirm then { r with up := r.up + 1, down := 0, last := reading }
    else { level := upOf c reading, up := 0, down := 0, last := reading }
  else if fallsBelow c r.level reading then
    if r.down + 1 < c.confirm then { r with up := 0, down := r.down + 1, last := reading }
    else { level := downOf c r.level reading, up := 0, down := 0, last := reading }
  else { r with up := 0, down := 0, last := reading }

/-! ### Watches (R92 to R96) -/

/-- The state of a watch after a reading, by the tables of R92 and R93 and by R94. -/
def watchAfter (c : WatchConfig) (st : WatchState) : Reading → WatchState
  | none => .fault
  | some v =>
    match st with
    | .pending | .fault => if c.high < v then .above else if v < c.low then .below else .inside
    | .inside => if c.high < v then .above else if v < c.low then .below else .inside
    | .above => if v < c.low then .below else if v ≤ c.high - c.hysteresis then .inside else .above
    | .below => if c.high < v then .above else if c.low + c.hysteresis ≤ v then .inside else .below

/-- A departure from the window as R96 names it. -/
def departs (old new : WatchState) : Bool :=
  (decide (old = .pending) || decide (old = .inside)) &&
    (decide (new = .above) || decide (new = .below) || decide (new = .fault))

/-- The change posts a WATCH report: in TRACKING every change but PENDING to INSIDE (R95); in LATCHED a departure while the flag is
clear (R96). -/
def watchTells (c : WatchConfig) (r : WatchRec) (new : WatchState) : Bool :=
  match c.mode with
  | .off => false
  | .tracking => decide (r.state ≠ new) && !(decide (r.state = .pending) && decide (new = .inside))
  | .latched => !r.latched && departs r.state new

/-! ### Time (R1) -/

/-- The time left of a timer, 0 where its stated time is over or it is stopped. -/
def timeLeft : Timer → Nat
  | .running left => left
  | .stopped => 0
  | .overdue => 0

/-- d ms may pass before this timer expires: it expires no later than one millisecond after its stated time (R1). -/
def waits (d : Nat) : Timer → Bool
  | .stopped => true
  | .running left => decide (d ≤ left + 1)
  | .overdue => decide (d = 0)

/-- d ms may pass before this time, which is exact, is over (R192). -/
def waitsExactly (d : Nat) : Timer → Bool
  | .stopped => true
  | .running left => decide (d ≤ left)
  | .overdue => decide (d = 0)

/-- d ms may pass at once: every timer of the part may wait for them (R1; R192 for the 30 ms of start-up). -/
abbrev InTime (d : Nat) (s : State) : Prop :=
  (∀ n : LoadIx, waits d s.loads[n].settle = true ∧ waits d s.loads[n].backoff = true ∧
      waits d s.loads[n].cleanRun = true ∧ waits d s.quals.pg[n].timer = true) ∧
    waits d s.seq.gap = true ∧ waits d s.sev.hold = true ∧ waits d s.scan.pause = true ∧
    waits d s.link.interbyte = true ∧ waits d s.session.silence = true ∧ waits d s.quals.kill.timer = true ∧
    waits d s.quals.shed.timer = true ∧ (∀ v ∈ s.prof.save, waits d v.timer = true) ∧ waitsExactly d s.startup = true

/-- The expiry of this timer comes next: it runs, no other timer must expire before it (R1), and no grant is due that must be made
before it (2-7). -/
abbrev Expires (t : Timer) (s : State) : Prop := t ≠ .stopped ∧ InTime (timeLeft t) s ∧ ¬ GrantDue s

/-- The state at the moment this timer expires, before its event: its time has passed, and one more millisecond where the free
choice says so and no other timer is then too late (R1; log 2). -/
def atExpiry (t : Timer) (s : State) : State :=
  { s.elapse (if Config.expiresLate s.choices = true ∧ InTime (timeLeft t + 1) s then timeLeft t + 1 else timeLeft t) with
    choices := s.choices + 1 }

/-! ### Readings (R76, R78, R79, R86) -/

/-- The scaled and clamped value of a conversion (R78). -/
def scaledValue (c : ChannelConfig) (raw : Nat) : Int :=
  let v : Int := ((raw * c.gain / 1024 : Nat) : Int) + c.offset
  if v < -32767 then -32767 else if 32767 < v then 32767 else v

/-- Fault detect is set and the raw value lies within 2 counts of an end of the range (R79). -/
def invalidAt (c : ChannelConfig) (raw : Nat) : Bool := c.faultDetect && (decide (raw ≤ 2) || decide (4093 ≤ raw))

/-- The reading that a conversion gives (R78, R79). -/
def readingOf (c : ChannelConfig) (raw : Nat) : Reading := if invalidAt c raw then none else some (scaledValue c raw)

/-- The scanner in the conversion of entry i (R76). -/
def convertingEntry (list : List ChanIx) (i : Nat) (c : Scanner) : Scanner :=
  { c with state := .converting (list.getD i 0) false, cursor := i }

/-- The scanner after the end of a conversion (R76); `restart` where SET SCAN made entry 0 the next one (R86). -/
def scanOn (list : List ChanIx) (pause : Nat) (restart : Bool) (c : Scanner) : Scanner :=
  if restart = false ∧ c.cursor + 1 < list.length then convertingEntry list (c.cursor + 1) c
  else if restart = false ∧ 0 < pause then { c with state := .paused, cursor := 0, pause := .running pause }
  else convertingEntry list 0 c

/-- The ladders bound to channel ch (R82, R83). -/
def boundLadders (w : WorkingSet) (ch : ChanIx) : List LadderIx :=
  [0, 1, 2, 3].filter fun k => w.ladders[k].enabled && decide (w.ladders[k].source = ch)

/-- The watches bound to channel ch (R82, R83). -/
def boundWatches (w : WorkingSet) (ch : ChanIx) : List WatchIx :=
  [0, 1, 2, 3, 4, 5, 6, 7, 8, 9, 10, 11, 12, 13, 14, 15].filter fun i =>
    decide (w.watches[i].mode ≠ .off) && decide (w.watches[i].channel = ch)

/-- The scanner after a reading of channel ch: its record (R81), the priming flag (R84), the reading handed on to the ladders and
watches bound to ch and, for channels 0 to 15, to the load of that number (R82, R83), and the next conversion or the pause. -/
def scanAfter (ch : ChanIx) (restart : Bool) (raw : Nat) (s : State) : Scanner :=
  let c := s.ws.channels[ch]
  let records := s.scan.records.set ch
    { latest := readingOf c raw, valid := !invalidAt c raw, read := true, raw := raw, timestamp := s.timeBase }
  let ladders := boundLadders s.ws ch
  let watches := boundWatches s.ws ch
  scanOn s.ws.scanList s.ws.cyclePause restart
    { s.scan with
      records := records
      primed := s.scan.primed || s.ws.scanList.all (fun x => records[x].read)
      toLadders := s.scan.toLadders ++
        (if ladders ≠ [] then [{ channel := ch, reading := readingOf c raw, bound := ladders }] else [])
      toWatches := s.scan.toWatches ++
        (if watches ≠ [] then [{ channel := ch, reading := readingOf c raw, bound := watches }] else [])
      toLoads := s.scan.toLoads ++
        (if h : ch.val < 16 then [{ channel := ch, reading := readingOf c raw, bound := ⟨ch.val, h⟩ }] else []) }

/-! ### Requests by kind (R156, R204) -/

/-- The kind of the request that a request row takes (R204). -/
def requestKind : Instr → Option Byte
  | .hello => some 0x01 | .grant => some 0x02 | .ack => some 0x03 | .resend => some 0x04 | .snapshot => some 0x05
  | .demand => some 0x10 | .clear => some 0x11 | .setLoad => some 0x12 | .readLoad => some 0x13
  | .forceLevel => some 0x18 | .setLadder => some 0x19 | .setCutoff => some 0x1A | .readSeverity => some 0x1B
  | .setScan => some 0x20 | .setChannel => some 0x21 | .readChannels => some 0x22 | .setWatch => some 0x24
  | .ackWatch => some 0x25 | .readWatch => some 0x26 | .setGlobals => some 0x28 | .readSystem => some 0x29
  | .readLink => some 0x2A | .save => some 0x30 | .reset => some 0x3E
  | .badKindFrame | .byteArrival _ _ | .interbyteTimeout | .lineFrees | .powerOnReset | .pinReset | .resetEnd _ _ _
  | .profileSelection _ | .readingArrival _ | .pauseExpiry | .ladderEvaluation | .watchEvaluation | .loadReading
  | .startGrant | .settleExpiry _ | .cleanRunExpiry _ | .backoffExpiry _ | .gapExpiry | .restoreHoldExpiry
  | .silenceExpiry | .saveEnd _ | .pgPinChange _ _ | .pgQualified _ | .killPinChange _ | .killQualified
  | .shedPinChange _ | .shedQualified | .powerLoss => none

/-- The body length that R156 states for a kind. SET SCAN's follows from its entry count, and a body of fewer than 2 bytes has none
(R171). -/
def bodyLength (kind : Byte) (body : List Byte) : Option Nat :=
  if kind = 0x20#8 then (if body.length < 2 then none else some (u8 body 0 + 2))
  else
    (([(0x01, 0), (0x02, 1), (0x03, 2), (0x04, 0), (0x05, 0), (0x10, 3), (0x11, 1), (0x12, 14), (0x13, 1), (0x18, 1),
        (0x19, 23), (0x1A, 4), (0x1B, 1), (0x21, 6), (0x22, 2), (0x24, 9), (0x25, 1), (0x26, 1), (0x28, 7), (0x29, 0),
        (0x2A, 1), (0x30, 0), (0x3E, 0)] : List (Byte × Nat)).find? (fun p => decide (p.1 = kind))).map (·.2)

/-- The bytes of a watch configuration, in the order of SET WATCH (R174). -/
def watchBytes (c : WatchConfig) : List Byte :=
  byte c.mode.code ++ byte c.channel.val ++ sle16 c.low ++ sle16 c.high ++ le16 c.hysteresis

/-- The bytes of a channel configuration, in the order of SET CHANNEL (R172). -/
def channelBytes (c : ChannelConfig) : List Byte := le16 c.gain ++ sle16 c.offset ++ yesNoByte c.faultDetect

/-- The bytes of the globals, in the order of SET GLOBALS (R177). -/
def globalsBytes (g : Globals) : List Byte :=
  byte g.cleanRun ++ byte g.startGap ++ byte g.startCeiling ++ le16 g.restoreHold ++ byte g.silenceTimeout ++
    byte g.shedInputLevel

/-- The bytes after the entry count of a SET SCAN body (R171). -/
def scanBytes (list : List ChanIx) (pause : Nat) : List Byte := byte pause ++ list.flatMap (fun c => byte c.val)

/-- A signed two-byte value that may stand as a threshold or a limit: every value but 8000h (R156). -/
abbrev Limit (v : Int) : Prop := -32767 ≤ v ∧ v ≤ 32767

end Sys2Proof.Claims

namespace Sys2Proof.Claims

open Sys2Proof.Machine Sys2Proof.Safety

/-! ### More of what a command leaves -/

/-- A timer d ms later. -/
def later (d : Nat) : Timer → Timer
  | .stopped => .stopped
  | .running left => if left < d then .overdue else .running (left - d)
  | .overdue => .overdue

/-- t is s after d ms: the time base and every timer of the part have run, and nothing else has changed (R1). -/
def Elapsed (d : Nat) (s t : State) : Prop :=
  t.timeBase = s.timeBase + BitVec.ofNat 32 d ∧ t.startup = later d s.startup ∧
    (∀ n : LoadIx, t.loads[n] = { s.loads[n] with
      settle := later d s.loads[n].settle, backoff := later d s.loads[n].backoff,
      cleanRun := later d s.loads[n].cleanRun }) ∧
    t.seq = { s.seq with gap := later d s.seq.gap } ∧ t.sev = { s.sev with hold := later d s.sev.hold } ∧
    t.scan = { s.scan with pause := later d s.scan.pause } ∧
    t.link = { s.link with interbyte := later d s.link.interbyte } ∧
    t.session = { s.session with silence := later d s.session.silence } ∧
    t.prof = { s.prof with save := s.prof.save.map fun v => { v with timer := later d v.timer } } ∧
    t.quals.kill = { s.quals.kill with timer := later d s.quals.kill.timer } ∧
    t.quals.shed = { s.quals.shed with timer := later d s.quals.shed.timer } ∧
    (∀ n : LoadIx, t.quals.pg[n] = { s.quals.pg[n] with timer := later d s.quals.pg[n].timer }) ∧
    t.ws = s.ws ∧ t.watches = s.watches ∧ t.store = s.store ∧ t.phase = s.phase ∧ t.pending = s.pending ∧
    t.choices = s.choices

/-- The timer whose expiry a row is. -/
def timerOf (s : State) : Instr → Timer
  | .interbyteTimeout => s.link.interbyte
  | .pauseExpiry => s.scan.pause
  | .settleExpiry n => s.loads[n].settle
  | .cleanRunExpiry n => s.loads[n].cleanRun
  | .backoffExpiry n => s.loads[n].backoff
  | .gapExpiry => s.seq.gap
  | .restoreHoldExpiry => s.sev.hold
  | .silenceExpiry => s.session.silence
  | .saveEnd _ => (s.prof.save.map (·.timer)).getD .stopped
  | .pgQualified n => s.quals.pg[n].timer
  | .killQualified => s.quals.kill.timer
  | .shedQualified => s.quals.shed.timer
  | .profileSelection _ => s.startup
  | .hello | .grant | .ack | .resend | .snapshot | .demand | .clear | .setLoad | .readLoad | .forceLevel | .setLadder
  | .setCutoff | .readSeverity | .setScan | .setChannel | .readChannels | .setWatch | .ackWatch | .readWatch | .setGlobals
  | .readSystem | .readLink | .save | .reset | .badKindFrame | .byteArrival _ _ | .lineFrees | .powerOnReset | .pinReset
  | .resetEnd _ _ _ | .readingArrival _ | .ladderEvaluation | .watchEvaluation | .loadReading | .startGrant
  | .pgPinChange _ _ | .killPinChange _ | .shedPinChange _ | .powerLoss => .stopped

/-- The rows that come after a grant that is due: the requests, the conversions and the expiries (2-7; log 5). -/
def followsGrant : Instr → Bool
  | .hello | .grant | .ack | .resend | .snapshot | .demand | .clear | .setLoad | .readLoad | .forceLevel | .setLadder
  | .setCutoff | .readSeverity | .setScan | .setChannel | .readChannels | .setWatch | .ackWatch | .readWatch | .setGlobals
  | .readSystem | .readLink | .save | .reset | .badKindFrame | .readingArrival _ | .interbyteTimeout | .pauseExpiry
  | .settleExpiry _ | .cleanRunExpiry _ | .backoffExpiry _ | .gapExpiry | .restoreHoldExpiry | .silenceExpiry | .saveEnd _
  | .pgQualified _ | .killQualified | .shedQualified => true
  | .byteArrival _ _ | .lineFrees | .powerOnReset | .pinReset | .resetEnd _ _ _ | .profileSelection _ | .ladderEvaluation
  | .watchEvaluation | .loadReading | .startGrant | .pgPinChange _ _ | .killPinChange _ | .shedPinChange _
  | .powerLoss => false

/-- The rows at which the sequencer considers a grant (R37), and START_GRANT itself. -/
def considersGrant : Instr → Bool
  | .demand | .forceLevel | .setLadder | .setCutoff | .setScan | .setGlobals | .ladderEvaluation | .loadReading
  | .startGrant | .settleExpiry _ | .backoffExpiry _ | .gapExpiry | .restoreHoldExpiry | .silenceExpiry | .killQualified
  | .shedQualified | .profileSelection _ => true
  | .hello | .grant | .ack | .resend | .snapshot | .clear | .setLoad | .readLoad | .readSeverity | .setChannel
  | .readChannels | .setWatch | .ackWatch | .readWatch | .readSystem | .readLink | .save | .reset | .badKindFrame
  | .byteArrival _ _ | .interbyteTimeout | .lineFrees | .powerOnReset | .pinReset | .resetEnd _ _ _ | .readingArrival _
  | .pauseExpiry | .watchEvaluation | .cleanRunExpiry _ | .saveEnd _ | .pgPinChange _ _ | .pgQualified _
  | .killPinChange _ | .shedPinChange _ | .powerLoss => false

/-- These bytes arrive one after the other, without stop-bit errors. -/
def feed : List Byte → State → Host.Outcome State Fault Refusal
  | [], s => .next s
  | b :: rest, s =>
    match exec (.byteArrival b false) s with
    | .next t => feed rest t
    | .fault r => .fault r
    | .refused r => .refused r

/-- The framer in this state; the interbyte timer runs from now while a frame is open (R128, R129). -/
def framed (f : Framer) (s : State) : State :=
  { s with link := { s.link with framer := f, interbyte := if f = .hunt then .stopped else .running 3 } }

/-- The link statistics replaced. -/
def withStats (st : LinkStats) (s : State) : State := { s with link := { s.link with stats := st } }

/-- A counter of R137 raised by 1. -/
def raised (n : Nat) : Nat := if n < 65535 then n + 1 else 65535

/-- The silence timer started or restarted for the timeout in force, or cancelled by a timeout of 0 (R147). -/
def silenceFor (g : Globals) : Timer := if g.silenceTimeout = 0 then .stopped else .running (g.silenceTimeout * 1000)

/-- The notice of a good frame (R147, R149). -/
def noticed (kind tag : Byte) (s : State) : State :=
  match s.session.state with
  | .down => s
  | .up =>
    if s.ws.globals.silenceTimeout = 0 then s
    else { s with session := { s.session with silence := silenceFor s.ws.globals } }
  | .lost =>
    { s with
      store := s.store.post s.timeBase [.hostReturned kind tag]
      session := { s.session with state := .up, silence := silenceFor s.ws.globals } }

/-- A good frame is judged for the inbound queue (R132). -/
def judged (f : Frame) (s : State) : State :=
  if s.link.inbound.length < 2 then
    withStats { s.link.stats with accepted := raised s.link.stats.accepted }
      { s with link := { s.link with inbound := s.link.inbound ++ [f] } }
  else withStats { s.link.stats with dropped := raised s.link.stats.dropped } s

/-- A qualifier at the first step of start-up (R14, R191, R196). -/
def qualifierStarts (activeHigh : Bool) (time : Nat) (q : Qualifier) : Qualifier :=
  { q with timer := if (PinLevel.isHigh q.pin == activeHigh) = q.qualified then .stopped else .running time }

/-- A qualifier after its pin changed to this level (R14, R196): while the qualifiers run, the qualification time begins or is
abandoned. -/
def pinChanged (runs activeHigh : Bool) (time : Nat) (level : PinLevel) (q : Qualifier) : Qualifier :=
  if level = q.pin then q
  else if runs then
    { pin := level, qualified := q.qualified,
      timer := if (PinLevel.isHigh level == activeHigh) = q.qualified then .stopped else .running time }
  else { q with pin := level }

/-- The generation of a slot whose image is VALID (R183). -/
def validGeneration : NvSlot → Option DWord
  | .blank => none
  | .torn => none
  | .written g image => if image.ok then some g else none

/-- The profile the selection leaves is that of this slot (R192, R193). -/
def RunsSlot (n : SlotName) (g : DWord) (c : NvSlot) (t : State) : Prop :=
  t.prof.active = some n ∧ t.prof.generation = g ∧ heldImage c = some t.ws

/-- The slot state that PROFILE_LOADED names (R183, R194). -/
def slotStateOf : NvSlot → SlotState
  | .blank => .blank
  | .torn => .invalid
  | .written _ image => if image.ok then .valid else .invalid

/-- Steps 4 to 6 of start-up after the working set is loaded (R194, R195). -/
def startedUp (asInh : PinLevel) (q : State) : State :=
  let a : State :=
    { q with
      store := postAll q.timeBase
        [.reset q.session.cause q.prof.straps,
          .profileLoaded q.prof.active q.prof.generation (nextTarget q.prof.active)
            (slotStateOf (q.prof.slot (nextTarget q.prof.active)))] q.store }
  let b := if a.quals.kill.qualified then
      withDemandOff .kill allLoads { a with store := a.store.post a.timeBase [.kill true] } else a
  let c := if b.quals.shed.qualified then
      withDepth
        { b with
          store := b.store.post b.timeBase [.shedInput true b.ws.globals.shedInputLevel]
          sev := { b.sev with shedInput := true } } else b
  let d : State := { c with scan := convertingEntry c.ws.scanList 0 c.scan }
  let e := withGrant (if asInh = .high ∧ d.quals.kill.qualified = false then
      withDemandOn .autostart (allLoads.filter fun n => d.ws.loads[n].fitted && d.ws.loads[n].autostart) d else d)
  { e with phase := .running, session := { e.session with taking := true } }

/-- Every SENT record returned to POSTED, marked RESENT (R118). -/
def requeued (rs : List Record) : List Record := rs.map fun r => if r.sent then { r with sent := false, resent := true } else r

/-- The number of SENT records. -/
def sentIn (rs : List Record) : Nat := rs.countP (·.sent)

/-- A HELLO of length 0 has been executed (R145). -/
def helloDone (s : State) : State :=
  { s with
    session := { s.session with state := .up, cache := [], silence := silenceFor s.ws.globals }
    store := { s.store with records := requeued s.store.records, credits := 0 } }

/-- The active generation, 0 when the active slot is none (R184). -/
def generationNow (s : State) : DWord := if s.prof.active = none then 0 else s.prof.generation

/-- The 16 bytes of the HELLO reply (R146, R203). -/
def helloBody (s : State) : List Byte :=
  [0x00#8] ++ le16 0x1624 ++ [0x01#8] ++ byte s.session.cause.code ++ byte (slotCode s.prof.active) ++
    le32 (generationNow s).toNat ++ byte (64 - s.store.records.length) ++
    byte s.store.records.length ++ byte 0 ++ byte 0 ++ le16 s.store.lost

/-- The readings of channels first to first + 7 (R105). -/
def eightFrom (first : Nat) (s : State) : List Reading :=
  (List.range 8).map fun i => ((s.scan.records.toList)[first + i]?.map (·.latest)).getD none

/-- The mask that names these loads (R162). -/
def maskOf (ns : List LoadIx) : Nat := (allLoads.map fun n => if ns.contains n then 2 ^ n.val else 0).sum

/-- The loads of a DEMAND mask, in ascending order (R162). -/
def loadsOf (mask : Nat) : List LoadIx := allLoads.filter fun n => mask / 2 ^ n.val % 2 = 1

/-- A change to the working set by an accepted SET request (R157, R182). -/
def reconfigured (w : WorkingSet) (s : State) : State := { s with ws := w, prof := { s.prof with dirty := true } }

/-- The dynamic fields of a ladder after SET LADDER (R70). -/
def ladderReset (old new : LadderConfig) (r : Ladder) : Ladder :=
  match old.enabled, new.enabled with
  | false, false => r
  | false, true => Ladder.reset
  | true, false => Ladder.reset
  | true, true =>
    { level := min r.level new.top, up := 0, down := 0, last := if old.source = new.source then r.last else none }

/-- The waiting readings without this ladder or watch among their destinations. -/
def notTo {α : Type} [DecidableEq α] (x : α) (ds : List (Delivery (List α))) : List (Delivery (List α)) :=
  ds.map fun d => { d with bound := d.bound.filter fun y => decide (y ≠ x) }

/-- The part after an accepted SET LADDER (R70). A ladder that stays enabled on its source keeps the readings that wait for it; any
other takes none that has arrived already (R83). -/
def ladderSet (k : LadderIx) (c : LadderConfig) (s : State) : State :=
  let r := s.sev.ladders[k]
  let new := ladderReset s.ws.ladders[k] c r
  let old := s.ws.ladders[k]
  let a := reconfigured { s.ws with ladders := s.ws.ladders.set k c } s
  withGrant <| withDepth
    { a with
      scan := if old.enabled = true ∧ c.enabled = true ∧ old.source = c.source then a.scan
        else { a.scan with toLadders := notTo k a.scan.toLadders }
      sev := { a.sev with ladders := a.sev.ladders.set k new }
      store := if s.ws.ladders[k].enabled && decide (new.level ≠ r.level) then
          a.store.post a.timeBase [.level k r.level new.level c.source none] else a.store }

/-- The part after an accepted SET CUTOFF (R65). -/
def cutoffSet (table : Vector Nat 4) (s : State) : State :=
  let w : WorkingSet := { s.ws with cutoff := table }
  let restores := allLoads.any fun n => decide (s.loads[n].state = .shed) && !w.shedAt s.sev.depth n
  let a := withShed (allLoads.filter fun n => w.shedAt s.sev.depth n && !s.ws.shedAt s.sev.depth n) (reconfigured w s)
  withGrant
    { a with sev := { a.sev with hold := if restores then .running (s.ws.globals.restoreHold * 1000) else a.sev.hold } }

/-- The channels that a new scan list must keep (R85). -/
def BoundKept (list : List ChanIx) (s : State) : Prop :=
  (∀ k : LadderIx, s.ws.ladders[k].enabled = true → s.ws.ladders[k].source ∈ list) ∧
    (∀ w : WatchIx, s.ws.watches[w].mode ≠ .off → s.ws.watches[w].channel ∈ list) ∧
    ∀ n : LoadIx, s.ws.loads[n].fitted = true → s.loads[n].state ≠ .off → (n.castLE (by decide) : ChanIx) ∈ list

/-- The scanner after an accepted SET SCAN (R86). -/
def scanRestarted (list : List ChanIx) (c : Scanner) : Scanner :=
  let next : Scanner := match c.state with
    | .converting ch _ => { c with state := .converting ch true, cursor := 0 }
    | .paused => convertingEntry list 0 { c with pause := .stopped }
    | .stopped => c
  { next with primed := c.primed || list.all (fun x => c.records[x].read) }

/-- The part after an accepted SET GLOBALS: the depth is formed, a grant is considered, the silence timer follows (R155, R177). -/
def globalsSet (g : Globals) (s : State) : State :=
  let a := withGrant (withDepth (reconfigured { s.ws with globals := g } s))
  if a.session.state = .up then { a with session := { a.session with silence := silenceFor g } } else a

/-- The part after an accepted SAVE (R186). -/
def saveBegun (s : State) : State :=
  let target := nextTarget s.prof.active
  let known := s.prof.setSlot target .torn .invalid
  let g := generationNow s
  { s with
    prof :=
      { known with
        dirty := false
        save := some
          { target := target
            generation := if g = 0xFFFFFFFF#32 then g else g + 1
            image := s.ws
            timer := .running 45 } } }

/-- The part after the end of a save (R187). -/
def saveEnded (v : Save) (verified : Bool) (s : State) : State :=
  if verified then
    let written := s.prof.setSlot v.target (.written v.generation v.image) (.valid v.generation)
    { s with
      prof := { written with active := some v.target, generation := v.generation, save := none }
      store := s.store.post s.timeBase [.profileSaved v.target v.generation] }
  else
    { s with
      prof := { s.prof with dirty := true, save := none }
      store := s.store.post s.timeBase [.saveFailed v.target v.generation] }

/-- Load n goes from STARTING to ON (R12). -/
def withSettled (n : LoadIx) (s : State) : State :=
  { s with
    loads := s.loads.set n
      { leftFor .on s.loads[n] with cleanRun := .running (s.ws.globals.cleanRun * 1000) }
    seq := seqWithout [n] s
    store := s.store.post s.timeBase [.loadState n .starting .on .settled s.loads[n].retries (s.lastCurrent n)] }

/-- Load n leaves TRIPPED at the end of its backoff (R21). -/
def withBackoffEnded (n : LoadIx) (s : State) : State :=
  let r := { s.loads[n] with backoff := .stopped }
  let new : LoadState := if r.demand = false then .off else if s.isShed n then .shed else .queued
  { s with
    loads := s.loads.set n (if new = .queued then { r with state := new, entry := some s.seq.counter } else { r with state := new })
    seq := if new = .queued then seqWith [n] s else s.seq
    store := s.store.post s.timeBase [.loadState n .tripped new .backoffEnd r.retries (s.lastCurrent n)] }

/-- The orphan action of load n (R27). -/
def orphaned (s : State) (n : LoadIx) : State :=
  if s.ws.loads[n].fitted then
    match s.ws.loads[n].orphan with
    | .keep => s
    | .off => withDemandOff .orphan [n] s
    | .on => if s.quals.kill.qualified then s else withDemandOn .orphan [n] s
  else s

/-- The host is declared lost: the report flow, the orphan actions, and one consideration of a grant (R27, R37, R120, R148). -/
def hostLost (s : State) : State :=
  let posted := s.store.post s.timeBase [.hostLost s.ws.globals.silenceTimeout]
  withGrant <| allLoads.foldl orphaned
    { s with
      session := { s.session with state := .lost, silence := .stopped }
      store := { posted with records := requeued posted.records, credits := 0 } }

/-- A reading at a load in STARTING or ON (R11, R13, R18): the limit is that of the state. -/
def loadAfter (n : LoadIx) (limit : Nat) (cause : TripCause) (reading : Reading) (s : State) : State :=
  let r := s.loads[n]
  match reading with
  | some v =>
    if limit = 0 then { s with loads := s.loads.set n { r with senseStreak := 0 } }
    else if v ≤ limit then { s with loads := s.loads.set n { r with senseStreak := 0, overStreak := 0 } }
    else if r.overStreak + 1 < s.ws.loads[n].confirm then
      { s with loads := s.loads.set n { r with senseStreak := 0, overStreak := r.overStreak + 1 } }
    else withTrip cause n s
  | none =>
    if r.senseStreak + 1 < 8 then { s with loads := s.loads.set n { r with senseStreak := r.senseStreak + 1 } }
    else withTrip .senseFault n s

/-- A reading at the ladders that were bound to its channel when it arrived and still are (R51 to R56, R83), and the consideration
of a grant (R37). -/
def laddersAfter (d : Delivery (List LadderIx)) (s : State) : State :=
  let takes := fun k : LadderIx =>
    d.bound.contains k && s.ws.ladders[k].enabled && decide (s.ws.ladders[k].source = d.channel)
  let new := fun k : LadderIx => ladderAfter s.ws.ladders[k] s.sev.ladders[k] d.reading
  let changed := allLadders.filter fun k => takes k && decide ((new k).level ≠ s.sev.ladders[k].level)
  withGrant <| withDepth
    { s with
      sev := { s.sev with ladders := Vector.ofFn fun k => if takes k then new k else s.sev.ladders[k] }
      store := postAll s.timeBase
        (changed.map fun k => .level k s.sev.ladders[k].level (new k).level s.ws.ladders[k].source d.reading) s.store }

/-- A reading at the watches that were bound to its channel when it arrived and still are (R83, R91 to R98). -/
def watchesAfter (d : Delivery (List WatchIx)) (s : State) : State :=
  let takes := fun w : WatchIx =>
    d.bound.contains w && decide (s.ws.watches[w].mode ≠ .off) && decide (s.ws.watches[w].channel = d.channel)
  let new := fun w : WatchIx => watchAfter s.ws.watches[w] s.watches[w].state d.reading
  let tells := fun w : WatchIx => watchTells s.ws.watches[w] s.watches[w] (new w)
  { s with
    watches := Vector.ofFn fun w =>
      if takes w then
        { state := new w, last := d.reading,
          latched := s.watches[w].latched || (decide (s.ws.watches[w].mode = .latched) && tells w) }
      else s.watches[w]
    store := postAll s.timeBase
      ((allWatches.filter fun w => takes w && tells w).map fun w =>
        let c := s.ws.watches[w]
        .watch w c.channel c.mode s.watches[w].state (new w) d.reading c.low c.high) s.store }

/-- PGn has become qualified at its pin's level (R14, R15). -/
def pgAdopted (n : LoadIx) (s : State) : State :=
  let q := s.quals.pg[n]
  let a : State :=
    { s with quals := { s.quals with
        pg := s.quals.pg.set n { q with qualified := PinLevel.isHigh q.pin, timer := .stopped } } }
  if q.pin = .low ∧ s.loads[n].state = .on ∧ s.ws.loads[n].feedback = .required then withTrip .feedbackLost n a else a

/-- KILL has become qualified at its pin's level; from the fourth step of start-up on the change is handed on, and a grant is
considered (R26, R37, R197). -/
def killAdopted (s : State) : State :=
  let asserted := decide (s.quals.kill.pin = .low)
  let a : State := { s with quals := { s.quals with kill := { s.quals.kill with qualified := asserted, timer := .stopped } } }
  if s.phase = .running then
    let b : State := { a with store := a.store.post a.timeBase [.kill asserted] }
    withGrant (if asserted then withDemandOff .kill allLoads b else b)
  else a

/-- SHED has become qualified at its pin's level; from the fourth step of start-up on the change is handed on, the depth is formed
and a grant is considered (R37, R57, R198). -/
def shedAdopted (s : State) : State :=
  let asserted := decide (s.quals.shed.pin = .low)
  let a : State := { s with quals := { s.quals with shed := { s.quals.shed with qualified := asserted, timer := .stopped } } }
  if s.phase = .running then
    withGrant <| withDepth
      { a with
        store := a.store.post a.timeBase [.shedInput asserted a.ws.globals.shedInputLevel]
        sev := { a.sev with shedInput := asserted } }
  else a

/-- The fields of a record that are fixed at its posting (R103). -/
def posting (r : Record) : Record := { r with sent := false, resent := false }

/-- The commands at which a reset is taken (R190). -/
def takesReset (c : Instr) (s : State) : Prop :=
  c = .powerOnReset ∨ c = .pinReset ∨ c = .powerLoss ∨ (c = .lineFrees ∧ ∃ r, s.link.tx = .reply r ∧ r.resets = true)

/-! ### The bytes of replies and records (R168, R170, R178, R201, R202) -/

/-- A ladder's configuration in the form SET LADDER carries it (R168). -/
def ladderBytes (c : LadderConfig) : List Byte :=
  yesNoByte c.enabled ++ byte c.source.val ++ byte c.direction.code ++ byte c.top ++ byte c.confirm ++ byte c.fault ++
    sle16 c.enter[0] ++ sle16 c.enter[1] ++ sle16 c.enter[2] ++ sle16 c.enter[3] ++
    sle16 c.exit[0] ++ sle16 c.exit[1] ++ sle16 c.exit[2] ++ sle16 c.exit[3]

/-- A ladder's level, up-streak, down-streak and last reading (R170). -/
def streakBytes (r : Ladder) : List Byte := byte r.level ++ byte r.up ++ byte r.down ++ readingBytes r.last

/-- Part 4 of READ SEVERITY, after the status (R170). -/
def severityBytes (s : State) : List Byte :=
  yesNoByte s.ws.ladders[0].enabled ++ streakBytes s.sev.ladders[0] ++
    yesNoByte s.ws.ladders[1].enabled ++ streakBytes s.sev.ladders[1] ++
    yesNoByte s.ws.ladders[2].enabled ++ streakBytes s.sev.ladders[2] ++
    yesNoByte s.ws.ladders[3].enabled ++ streakBytes s.sev.ladders[3] ++
    byte s.sev.depth ++ byte (contributorCode s.sev.contributor) ++ byte s.sev.hostFloor ++ yesNoByte s.sev.shedInput ++
    byte s.ws.globals.shedInputLevel ++
    byte s.ws.cutoff[0] ++ byte s.ws.cutoff[1] ++ byte s.ws.cutoff[2] ++ byte s.ws.cutoff[3] ++
    le16 s.ws.globals.restoreHold ++ yesNoByte (decide (s.sev.hold ≠ .stopped)) ++ le32 (timeLeft s.sev.hold) ++
    byte s.ws.globals.startCeiling

/-- READ SYSTEM, after the status (R178). -/
def systemBytes (s : State) : List Byte :=
  byte s.seq.queue.length ++
    (s.seq.queue.map fun e => byte e.load.val ++ byte e.priority ++ le16 e.number.toNat).flatten ++
    (match s.seq.slot with
      | some n => byte n.val
      | none => [0xFF#8]) ++
    yesNoByte (decide (s.seq.gap ≠ .stopped)) ++ le16 (timeLeft s.seq.gap) ++ yesNoByte s.scan.primed ++
    yesNoByte s.quals.kill.qualified ++ byte s.session.state.code ++
    byte (64 - s.store.records.length) ++ byte (s.store.records.countP fun r => !r.sent) ++ byte (sentIn s.store.records) ++
    byte s.store.credits ++ le16 s.store.lost ++ yesNoByte s.prof.dirty ++ yesNoByte (decide (s.prof.save ≠ none))

/-- The report kind code and the fields of a payload in the order of their offsets, unused bytes among them 00h (R202, R204). -/
def payloadBytes : Payload → Byte × List Byte
  | .reset cause p =>
    (0x01, byte cause.code ++
      byte ((PinLevel.isHigh p.br0).toNat + 2 * (PinLevel.isHigh p.br1).toNat + 4 * (PinLevel.isHigh p.asInh).toNat))
  | .profileLoaded slot g target st =>
    (0x02, (match slot with | some n => byte n.code | none => [0xFF#8]) ++ le32 g.toNat ++ byte target.code ++ byte st.code)
  | .loadState n old new cause retries v =>
    (0x03, byte n.val ++ byte old.code ++ byte new.code ++ byte cause.code ++ byte retries ++ [0x00#8] ++ readingBytes v)
  | .level k old new source v => (0x04, byte k.val ++ byte old ++ byte new ++ byte source.val ++ readingBytes v)
  | .depth old new c => (0x05, byte old ++ byte new ++ byte (contributorCode c))
  | .watch w c mode old new v low high =>
    (0x06, byte w.val ++ byte c.val ++ byte mode.code ++ byte old.code ++ byte new.code ++ [0x00#8] ++ readingBytes v ++
      sle16 low ++ sle16 high)
  | .sensor c valid raw v => (0x07, byte c.val ++ yesNoByte valid ++ le16 raw ++ readingBytes v)
  | .kill asserted => (0x08, yesNoByte asserted)
  | .shedInput asserted level => (0x09, yesNoByte asserted ++ byte level)
  | .hostLost timeout => (0x0A, byte timeout)
  | .hostReturned kind tag => (0x0B, [kind, tag])
  | .profileSaved slot g => (0x0C, byte slot.code ++ le32 g.toNat)
  | .saveFailed slot g => (0x0D, byte slot.code ++ le32 g.toNat)
  | .snapshot values => (0x0E, (values.map readingBytes).flatten)
  | .loss count => (0x0F, le16 count)

/-! ### The order of the start queue (R32, R33) -/

/-- Entry a stands ahead of entry b. -/
def Ahead (q : List QueueEntry) (a b : QueueEntry) : Prop := ∃ x y z, q = x ++ a :: (y ++ b :: z)

/-- From queue q to queue r, with the entry counter at `counter` before: entries that stay keep their order; a joining entry
stands behind every staying one whose priority value is lower than or equal to its own and ahead of every one that has a higher;
and of two joining entries of equal priority the one that took the earlier number stands ahead, across a wrap of the counter as
well (R33). -/
def FirstCome (counter : Word) (q r : List QueueEntry) : Prop :=
  ∀ a ∈ r, ∀ b ∈ r, a ≠ b →
    (a ∈ q → b ∈ q → Ahead q a b → Ahead r a b) ∧
      (a ∈ q → b ∉ q → a.priority ≤ b.priority → Ahead r a b) ∧
      (a ∈ q → b ∉ q → b.priority < a.priority → Ahead r b a) ∧
      (a ∉ q → b ∉ q → a.priority = b.priority → (a.number - counter).toNat < (b.number - counter).toNat → Ahead r a b)

end Sys2Proof.Claims

open Sys2Proof Sys2Proof.Machine Sys2Proof.Safety Sys2Proof.Claims

/-! ### Steps and time -/

/-- A step with a command at the front of the queue is that command's effect on the part with the queue's rest. -/
def Obligations.StepRunsFrontCommand : Prop :=
  ∀ (c : Instr) (rest : List Instr) (s : State), s.pending = c :: rest → step s = exec c { s with pending := rest }

/-- The model's choice (log 1): with no command waiting, the part takes a step of its own that is due; with none due, nothing
happens while a reset is held, and otherwise one millisecond passes. When d milliseconds pass, the time base rises by d, every
running timer falls by d, no further than to overdue, and nothing else changes; none pass while a reset is held (R1, R190, R191;
log 2). No command makes time pass beyond what R1 allows any running timer: its stated time and one millisecond; an expiry that
another must precede does not take place (log 3); and where no step is due, every timer of a lawful state has its stated time
still before it, so that one millisecond may pass. -/
def Obligations.EmptyQueueRunsDueStepOrOneMillisecond : Prop :=
  (∀ s : State, s.pending = [] →
    (∀ c, s.dueStep = some c → step s = exec c s) ∧
      (s.dueStep = none → s.phase = .held ∨ s.phase = .unpowered → step s = .next s) ∧
      (s.dueStep = none → s.phase = .selecting ∨ s.phase = .running → ∃ t, step s = .next t ∧ Elapsed 1 s t)) ∧
  (∀ (d : Nat) (s : State),
    (s.phase = .selecting ∨ s.phase = .running → Elapsed d s (s.elapse d)) ∧
      (s.phase = .held ∨ s.phase = .unpowered → s.elapse d = s)) ∧
  (∀ (c : Instr) (s t : State), exec c s = .next t → ¬ takesReset c s → (∀ x y z, c ≠ .resetEnd x y z) →
    (followsGrant c = true → ¬ GrantDue s) → ∃ d, InTime d s ∧ t.timeBase = s.timeBase + BitVec.ofNat 32 d) ∧
  (∀ (c : Instr) (s : State), timerOf s c ≠ .stopped → ¬ InTime (timeLeft (timerOf s c)) s → ¬ GrantDue s →
    exec c s = .next s) ∧
  ∀ s : State, ResetOk s → LoadsOk s → ScannerOk s → LinkOk s → s.dueStep = none → InTime 1 s

/-- Every command, in every state, ends in a next state and leaves the queue of waiting commands as it is: no command stops the
part with a fault or is refused (R107, R130, R144). That a command whose event cannot occur in the present state is no fault but
leaves the part as it is, is the model's choice (log 3). -/
def Obligations.EveryCommandCompletesAndKeepsTheQueue : Prop :=
  ∀ (c : Instr) (s : State), ∃ t, exec c s = .next t ∧ t.pending = s.pending

/-! ### The serial line (chapters 7 and 11) -/

/-- The check values of R200: the CRC of "123456789", the register after each byte of a HELLO with tag 01h, and its frame. -/
def Obligations.CrcCheckValues : Prop :=
  crc16 [0x31, 0x32, 0x33, 0x34, 0x35, 0x36, 0x37, 0x38, 0x39] = 0x29B1#16 ∧ crc16 [0x00] = 0xE1F0#16 ∧
    crc16 [0x00, 0x01] = 0x0D2E#16 ∧ crc16 [0x00, 0x01, 0x01] = 0xEF8C#16 ∧
    (mkFrame 0x01 0x01 []).bytes = [0xC3, 0x00, 0x01, 0x01, 0x8C, 0xEF]

/-- What the transmitter lays out the receiver reads back: the bytes of any frame with a body of up to 96 bytes, arriving without
stop-bit errors at a framer in HUNT, put exactly that frame at the tail of the inbound queue and count it ACCEPTED; where the
queue is full they count DROPPED. No load, ladder, watch or configuration changes (R128, R131, R132, R137, R199). -/
def Obligations.FrameBytesReachTheInboundQueue : Prop :=
  ∀ (kind tag : Byte) (body : List Byte) (s : State),
    body.length ≤ 96 → s.link.rxEnabled = true → s.link.framer = .hunt →
    ∃ t, feed (mkFrame kind tag body).bytes s = .next t ∧ t.link.framer = .hunt ∧ t.link.interbyte = .stopped ∧
      t.link.inbound =
        (if s.link.inbound.length < 2 then s.link.inbound ++ [mkFrame kind tag body] else s.link.inbound) ∧
      t.link.stats =
        (if s.link.inbound.length < 2 then { s.link.stats with accepted := raised s.link.stats.accepted }
         else { s.link.stats with dropped := raised s.link.stats.dropped }) ∧
      t.session.state = (if s.session.state = .lost then .up else s.session.state) ∧
      t.session.cache = s.session.cache ∧ t.session.taking = s.session.taking ∧ t.loads = s.loads ∧ t.seq = s.seq ∧
      t.sev = s.sev ∧ t.scan = s.scan ∧ t.watches = s.watches ∧ t.ws = s.ws ∧ t.prof = s.prof ∧ t.quals = s.quals ∧
      t.timeBase = s.timeBase ∧ t.phase = s.phase

/-- The receive framer, byte by byte: the table of R128 with the interbyte timer of R129, and the length, framing, CRC and
timeout errors of R130, each of which discards the open frame and counts once. The last row, a frame whose CRC agrees, is
GoodFrameIsNoticedThenQueued's. While the receiver is disabled nothing is taken from RXD (R127). Whether the one millisecond
that R1 allows passes as well is a free choice (log 2). -/
def Obligations.FramerFollowsItsTables : Prop :=
  ∀ s : State,
    (s.link.rxEnabled = false → ∀ b e, exec (.byteArrival b e) s = .next s) ∧
    (s.link.rxEnabled = true → ∀ b, ∃ t, exec (.byteArrival b true) s = .next t ∧
      LineTaken (framed .hunt (withStats { s.link.stats with framing := raised s.link.stats.framing } s)) t) ∧
    (Expires s.link.interbyte s →
      let p := atExpiry s.link.interbyte s
      ∃ t, exec .interbyteTimeout s = .next t ∧
        LineTaken (framed .hunt (withStats { p.link.stats with timeout := raised p.link.stats.timeout } p)) t) ∧
    (s.link.rxEnabled = true → ∀ b : Byte, ∃ t, exec (.byteArrival b false) s = .next t ∧
      (s.link.framer = .hunt → LineTaken (if b = 0xC3#8 then framed .length s else s) t) ∧
      (s.link.framer = .length → b.toNat ≤ 96 → LineTaken (framed (.header b.toNat none) s) t) ∧
      (s.link.framer = .length → 97 ≤ b.toNat →
        LineTaken (framed .hunt (withStats { s.link.stats with length := raised s.link.stats.length } s)) t) ∧
      (∀ len, s.link.framer = .header len none → LineTaken (framed (.header len (some b)) s) t) ∧
      (∀ kind, s.link.framer = .header 0 (some kind) → LineTaken (framed (.check kind b [] none) s) t) ∧
      (∀ len kind, s.link.framer = .header len (some kind) → 0 < len →
        LineTaken (framed (.body len kind b []) s) t) ∧
      (∀ len kind tag bytes, s.link.framer = .body len kind tag bytes → bytes.length + 1 < len →
        LineTaken (framed (.body len kind tag (bytes ++ [b])) s) t) ∧
      (∀ len kind tag bytes, s.link.framer = .body len kind tag bytes → len ≤ bytes.length + 1 →
        LineTaken (framed (.check kind tag (bytes ++ [b]) none) s) t) ∧
      (∀ kind tag bytes, s.link.framer = .check kind tag bytes none →
        LineTaken (framed (.check kind tag bytes (some b)) s) t) ∧
      (∀ kind tag bytes low, s.link.framer = .check kind tag bytes (some low) →
        (b ++ low : Word) ≠ frameCrc kind tag bytes →
        LineTaken (framed .hunt (withStats { s.link.stats with crc := raised s.link.stats.crc } s)) t))

/-- The second CRC byte of a frame whose CRC agrees: first the notice of a good frame, which in UP restarts the silence timer, in
LOST posts HOST_RETURNED and brings the session to UP, and in DOWN changes nothing (R131, R147, R149); then the frame is appended
to the inbound queue, or dropped when it holds 2 (R132). -/
def Obligations.GoodFrameIsNoticedThenQueued : Prop :=
  ∀ (kind tag : Byte) (bytes : List Byte) (low high : Byte) (s : State),
    s.link.rxEnabled = true → s.link.framer = .check kind tag bytes (some low) →
    (high ++ low : Word) = frameCrc kind tag bytes →
    ∃ t, exec (.byteArrival high false) s = .next t ∧
      LineTaken (judged (mkFrame kind tag bytes) (noticed kind tag (framed .hunt s))) t

/-- When the line frees at the end of a frame that is not the reply of a RESET, the transmitter is IDLE and takes the next frame at
once: the oldest reply, otherwise a report on credit, otherwise none (R135, R136). With no frame on the line nothing happens
(log 3). -/
def Obligations.LineFreesStartsTheNextFrame : Prop :=
  ∀ s : State,
    (∀ f, s.link.tx = .report f →
      ∃ t, exec .lineFrees s = .next t ∧ LineTaken { s with link := { s.link with tx := .idle } } t) ∧
    (∀ r, s.link.tx = .reply r → r.resets = false →
      ∃ t, exec .lineFrees s = .next t ∧ LineTaken { s with link := { s.link with tx := .idle } } t) ∧
    (s.link.tx = .idle → exec .lineFrees s = .next s)

/-! ### Resets and start-up (chapter 10) -/

/-- Whatever its cause, a reset puts every block at its reset values from the moment it is taken, and nothing runs while it is
held; the nonvolatile slots keep their contents, and the session unit keeps the cause (R3, R31, R47, R74, R90, R123, R138, R139,
R184, R190). That the active slot is none, the generation 0 and the slots not known until the profile selection is the model's
choice (log 11), and that the part is held after a REQUEST reset until RESET_END is its form (log 17). POWER_LOSS puts the same
values in place and keeps the cause of the run that ended; a PIN reset without supply changes nothing (log 15). -/
def Obligations.ResetsGiveEveryBlockItsResetValues : Prop :=
  ∀ s : State,
    (∀ (c : Instr) (cause : ResetCause),
      (c = .powerOnReset ∧ cause = .powerOn) ∨ (c = .pinReset ∧ cause = .pin ∧ s.phase ≠ .unpowered) ∨
        (c = .lineFrees ∧ cause = .request ∧ ∃ r, s.link.tx = .reply r ∧ r.resets = true) →
      ∃ t, exec c s = .next t ∧ t.phase = .held ∧ BlocksAtReset t ∧ NothingRuns t ∧ t.session.cause = cause ∧
        t.prof.slot0 = s.prof.slot0 ∧ t.prof.slot1 = s.prof.slot1 ∧ t.quals.kill.pin = s.quals.kill.pin ∧
        t.quals.shed.pin = s.quals.shed.pin ∧ (∀ n : LoadIx, t.quals.pg[n].pin = s.quals.pg[n].pin)) ∧
    (∃ t, exec .powerLoss s = .next t ∧ t.phase = .unpowered ∧ BlocksAtReset t ∧ NothingRuns t ∧
      t.session.cause = s.session.cause ∧ t.prof.slot0 = s.prof.slot0 ∧ t.prof.slot1 = s.prof.slot1) ∧
    (s.phase = .unpowered → exec .pinReset s = .next s)

/-- When the reset ends, the straps are sampled, the receiver is enabled, the time base begins from 0, the qualifiers begin, and the
30 ms of the second step begin; nothing else changes (R127, R191, R192). -/
def Obligations.ResetEndBeginsStartUp : Prop :=
  ∀ (br1 br0 asInh : PinLevel) (s : State), s.phase = .held →
    exec (.resetEnd br1 br0 asInh) s = .next
      { s with
        phase := .selecting
        timeBase := 0
        startup := .running 30
        link := { s.link with rxEnabled := true }
        prof := { s.prof with straps := { br1 := br1, br0 := br0, asInh := asInh } }
        quals :=
          { kill := qualifierStarts false 10 s.quals.kill
            shed := qualifierStarts false 20 s.quals.shed
            pg := Vector.ofFn fun n => qualifierStarts true 5 s.quals.pg[n] } }

/-- At the end of the 30 ms the profile is selected by the table of R192 and the working set is loaded whole from its slot, or
set to the factory defaults; what is known of each slot is as judged, the slots keep their contents, and the dirty flag is clear
(R183, R192, R193). Which written image counts as VALID, by the range checks and without the bits of a CRC, is the model's choice
(log 14). The selection comes after the expiries that the 30 ms hold (R1). -/
def Obligations.ProfileSelectionFollowsItsTable : Prop :=
  ∀ (asInh : PinLevel) (s : State), s.phase = .selecting → s.startup ≠ .stopped → InTime (timeLeft s.startup) s →
    ∃ t, exec (.profileSelection asInh) s = .next t ∧ t.phase = .running ∧ t.prof.dirty = false ∧
      t.prof.slot0 = s.prof.slot0 ∧ t.prof.slot1 = s.prof.slot1 ∧ t.prof.known0 = some s.prof.slot0.judge ∧
      t.prof.known1 = some s.prof.slot1.judge ∧
      match validGeneration s.prof.slot0, validGeneration s.prof.slot1 with
      | some g0, some g1 =>
        if g0.toNat < g1.toNat then RunsSlot .s1 g1 s.prof.slot1 t else RunsSlot .s0 g0 s.prof.slot0 t
      | some g0, none => RunsSlot .s0 g0 s.prof.slot0 t
      | none, some g1 => RunsSlot .s1 g1 s.prof.slot1 t
      | none, none => t.prof.active = none ∧ t.prof.generation = 0 ∧ t.ws = WorkingSet.factory

/-- Steps 4 to 6 of start-up: RESET and PROFILE_LOADED are posted, asserted KILL and SHED are handed on, the scanner begins
entry 0, autostart is applied unless AS_INH_N is low or KILL is asserted, a grant is considered once, and taking opens (R28, R37,
R194, R195). From the reset values, RESET and PROFILE_LOADED are the records numbered 0 and 1 (R123). The state of the next target
that PROFILE_LOADED carries rests on which image counts as VALID, the model's choice (log 14). -/
def Obligations.StartUpPostsHandsOnAndStarts : Prop :=
  ∀ (asInh : PinLevel) (s : State), s.phase = .selecting → s.startup ≠ .stopped → InTime (timeLeft s.startup) s →
    let q := (s.elapse (timeLeft s.startup)).selectProfile
    q.ws.scanList ≠ [] →
    ∃ t, exec (.profileSelection asInh) s = .next t ∧ LineTaken (startedUp asInh q) t ∧
      (BlocksAtReset s → ∃ rest,
        t.store.records =
          newRecord q.timeBase 0 true true (.reset s.session.cause s.prof.straps) ::
          newRecord q.timeBase 1 true true
            (.profileLoaded q.prof.active q.prof.generation (nextTarget q.prof.active)
              (slotStateOf (q.prof.slot (nextTarget q.prof.active)))) :: rest)

/-! ### Taking a request (chapter 8) -/

/-- In DOWN every request but HELLO is answered NO_SESSION and nothing else: it is not executed and not cached (R142, R144). -/
def Obligations.DownAnswersNoSession : Prop :=
  ∀ (c : Instr) (kind : Byte) (f : Frame) (s : State),
    requestKind c = some kind → c ≠ .hello → MayTake (· = kind) f s → s.session.state = .down →
    ∃ t, exec c s = .next t ∧ ReplyQueued (replyTo f [0x06#8]) false (taken s) t

/-- A request whose tag and received CRC match an entry of the reply cache is answered with the stored reply, byte for byte, and
not executed; the entry keeps its place (R142, R152). -/
def Obligations.RepeatIsAnsweredFromTheCache : Prop :=
  ∀ (c : Instr) (kind : Byte) (f : Frame) (e : CacheEntry) (s : State),
    requestKind c = some kind → c ≠ .hello → MayTake (· = kind) f s → s.session.state ≠ .down →
    (s.session.cache.map (·.tag)).Nodup → e ∈ s.session.cache → e.tag = f.tag → e.crc = f.crc →
    ∃ t, exec c s = .next t ∧ ReplyQueued e.reply false (taken s) t

/-- A request whose body length differs from the one stated for it is answered BAD_LENGTH and changes nothing but the cache and the
queues; HELLO does not enter the cache (R145, R156, R171). -/
def Obligations.WrongLengthIsRefused : Prop :=
  (∀ (f : Frame) (s : State), MayTake (· = 0x01#8) f s → f.body ≠ [] →
    ∃ t, exec .hello s = .next t ∧ ReplyQueued (replyTo f [0x02#8]) false (taken s) t) ∧
  ∀ (c : Instr) (kind : Byte) (f : Frame) (s : State),
    requestKind c = some kind → c ≠ .hello → MayExecute kind f s → bodyLength kind f.body ≠ some f.body.length →
    ∃ t, exec c s = .next t ∧ Executed f [0x02#8] false (taken s) t

/-- A good frame of no assigned kind is answered, in every session state, with kind 40h and BAD_KIND alone; it is neither executed
nor cached (R133, R142, R143). -/
def Obligations.UnassignedKindAnswersBadKind : Prop :=
  ∀ (f : Frame) (s : State), MayTake (fun k => ∀ c, requestKind c ≠ some k) f s →
    ∃ t, exec .badKindFrame s = .next t ∧ ReplyQueued (mkFrame 0x40#8 f.tag [0x01#8]) false (taken s) t

/-! ### Session and report flow -/

/-- HELLO of length 0 opens the session in any session state, empties the reply cache, sets credits to 0, returns every SENT record
to POSTED marked RESENT and restarts or cancels the silence timer; its reply is the 16 bytes of R203 taken after that; no load,
ladder, watch, channel or configuration changes, and it is not cached (R121, R145, R146). -/
def Obligations.HelloOpensTheSession : Prop :=
  ∀ (f : Frame) (s : State), MayTake (· = 0x01#8) f s → f.body = [] →
    ∃ t, exec .hello s = .next t ∧
      ReplyQueued (replyTo f (helloBody (helloDone (taken s)))) false (helloDone (taken s)) t

/-- GRANT of 1 to 64 raises credits, clamped so that credits plus SENT records stay at 64 or below, and replies with the credits;
no report starts before its reply is queued. Another count is BAD_FIELD and changes no credit (R112, R158). -/
def Obligations.GrantLendsClampedCredit : Prop :=
  ∀ (f : Frame) (n : Byte) (s : State), MayExecute 0x02#8 f s → f.body = [n] →
    (1 ≤ n.toNat ∧ n.toNat ≤ 64 →
      let credits := min (s.store.credits + n.toNat) (64 - sentIn s.store.records)
      ∃ t, exec .grant s = .next t ∧
        ExecutedReplyFirst f ([0x00#8] ++ byte credits) { taken s with store := { s.store with credits := credits } } t) ∧
    (n.toNat = 0 ∨ 64 < n.toNat → ∃ t, exec .grant s = .next t ∧ ExecutedReplyFirst f [0x03#8] (taken s) t)

/-- ACK of a number that no SENT record carries is BAD_FIELD and leaves the store. ACK of a SENT record frees, from the oldest
upward, the records up to it that end in a LAST record, whole reports only; a LOSS report follows where reports had been lost;
the reply carries the number freed (R109, R116, R117, R159). -/
def Obligations.AckFreesWholeReports : Prop :=
  ∀ (f : Frame) (s : State), MayExecute 0x03#8 f s → f.body.length = 2 → s.store.records.length ≤ 64 →
    let number : Word := BitVec.ofNat 16 (u16 f.body 0)
    ((∀ r ∈ s.store.records, ¬ (r.sent = true ∧ r.number = number)) →
      ∃ t, exec .ack s = .next t ∧ Executed f [0x03#8] false (taken s) t) ∧
    (∀ (older newer : List Record) (r : Record), s.store.records = older ++ r :: newer →
      (∀ x ∈ older, ¬ (x.sent = true ∧ x.number = number)) → r.sent = true → r.number = number →
      ∃ freed kept, older ++ [r] = freed ++ kept ∧ (∀ x ∈ kept, x.last = false) ∧
        (∀ x ∈ freed.getLast?, x.last = true) ∧
        (let store : Store := { s.store with records := kept ++ newer }
         ∃ t, exec .ack s = .next t ∧
          Executed f ([0x00#8] ++ byte freed.length) false
            { taken s with
              store := if freed ≠ [] ∧ 0 < s.store.lost then withLoss s.timeBase s.store.lost store else store } t))

/-- RESEND has a body of length 0 and is accepted in every state of the store: every SENT record returns to POSTED, marked RESENT,
credits stand, and the reply carries the number returned, 0 where none was SENT (R160). -/
def Obligations.ResendReturnsEverySentRecord : Prop :=
  ∀ (f : Frame) (s : State), MayExecute 0x04#8 f s →
    (f.body = [] → ∃ t, exec .resend s = .next t ∧
      Executed f ([0x00#8] ++ byte (sentIn s.store.records)) false
        { taken s with store := { s.store with records := requeued s.store.records } } t) ∧
    (f.body ≠ [] → ∃ t, exec .resend s = .next t ∧ Executed f [0x02#8] false (taken s) t) ∧
    (sentIn s.store.records = 0 → requeued s.store.records = s.store.records)

/-- SNAPSHOT posts one report of three records with the 24 latest values and consecutive numbers where 3 slots are FREE and nothing
is lost, and replies with its FIRST number; otherwise it counts one lost report, which a LOSS report tells at once where a slot is
FREE (R105, R107, R109, R161). Every report of one record is posted likewise, with the time base's count: where a slot is FREE and
nothing is lost its record, marked FIRST and LAST, stands behind all others under the counter's number; otherwise it is counted
lost, and a LOSS report tells it at once where a slot is FREE (R107, R109). -/
def Obligations.SnapshotIsPostedOrCountedLost : Prop :=
  (∀ (p : Payload) (s : State), s.store.records.length ≤ 64 →
    (s.store.lost = 0 → s.store.records.length < 64 →
      s.post [p] = { s with
        store := { s.store with
          records := s.store.records ++ [newRecord s.timeBase s.store.counter true true p]
          counter := s.store.counter + 1 } }) ∧
    (0 < s.store.lost ∨ s.store.records.length = 64 →
      s.post [p] = { s with
        store := if s.store.records.length < 64 then withLoss s.timeBase (raised s.store.lost) s.store
          else { s.store with lost := raised s.store.lost } }) ∧
    (s.post [p]).store = s.store.post s.timeBase [p]) ∧
  ∀ (f : Frame) (s : State), MayExecute 0x05#8 f s → f.body = [] → s.store.records.length ≤ 64 →
    let c := s.store.counter
    (s.store.lost = 0 → s.store.records.length ≤ 61 →
      ∃ t, exec .snapshot s = .next t ∧
        Executed f ([0x00#8, 0x01#8] ++ le16 c.toNat) false
          { taken s with
            store := { s.store with
              records := s.store.records ++
                [newRecord s.timeBase c true false (.snapshot (eightFrom 0 s)),
                  newRecord s.timeBase (c + 1) false false (.snapshot (eightFrom 8 s)),
                  newRecord s.timeBase (c + 2) false true (.snapshot (eightFrom 16 s))]
              counter := c + 3 } } t) ∧
    (0 < s.store.lost ∨ 61 < s.store.records.length →
      ∃ t, exec .snapshot s = .next t ∧
        Executed f [0x00#8, 0x00#8] false
          { taken s with
            store := if s.store.records.length < 64 then withLoss s.timeBase (raised s.store.lost) s.store
              else { s.store with lost := raised s.store.lost } } t)

/-! ### Requests of the load controller -/

/-- DEMAND OFF: every load of the mask takes the demand OFF in ascending order and leaves QUEUED, STARTING, ON or SHED for OFF with
cause DEMAND; TRIPPED and LOCKED loads record it; then a grant is considered once; the accepted mask is the request's mask and
the refused mask 0 (R9, R34, R37, R40, R162, R163). -/
def Obligations.DemandOffSwitchesTheMaskOff : Prop :=
  ∀ (f : Frame) (m0 m1 : Byte) (s : State), MayExecute 0x10#8 f s → f.body = [m0, m1, 0x00#8] →
    (m0 ≠ 0x00#8 ∨ m1 ≠ 0x00#8) →
    ∃ t, exec .demand s = .next t ∧
      Executed f [0x00#8, m0, m1, 0x00#8, 0x00#8] false
        (withGrant (withDemandOff .demand (loadsOf (u16 f.body 0)) (taken s))) t

/-- DEMAND ON: the mask is divided into accepted loads and refused ones, unfitted or LOCKED; the accepted loads take the demand ON
in ascending order, and then a grant is considered once; the reply is OK, PARTIAL with both masks, or BAD_STATE when none is
accepted. An action other than ON or OFF, or a mask of 0, is BAD_FIELD, and while KILL is asserted the whole request is KILLED,
with no load changed (R7, R8, R37, R46, R162, R163). -/
def Obligations.DemandOnDividesTheMask : Prop :=
  ∀ (f : Frame) (m0 m1 action : Byte) (s : State), MayExecute 0x10#8 f s → f.body = [m0, m1, action] →
    let mask := loadsOf (u16 f.body 0)
    let accepted := mask.filter fun n => s.ws.loads[n].fitted && decide (s.loads[n].state ≠ .locked)
    let refused := mask.filter fun n => !s.ws.loads[n].fitted || decide (s.loads[n].state = .locked)
    (action ≠ 0x00#8 ∧ action ≠ 0x01#8 ∨ m0 = 0x00#8 ∧ m1 = 0x00#8 →
      ∃ t, exec .demand s = .next t ∧ Executed f [0x03#8] false (taken s) t) ∧
    (action = 0x01#8 → (m0 ≠ 0x00#8 ∨ m1 ≠ 0x00#8) → s.quals.kill.qualified = true →
      ∃ t, exec .demand s = .next t ∧ Executed f [0x07#8] false (taken s) t) ∧
    (action = 0x01#8 → (m0 ≠ 0x00#8 ∨ m1 ≠ 0x00#8) → s.quals.kill.qualified = false → accepted = [] →
      ∃ t, exec .demand s = .next t ∧ Executed f [0x04#8] false (taken s) t) ∧
    (action = 0x01#8 → (m0 ≠ 0x00#8 ∨ m1 ≠ 0x00#8) → s.quals.kill.qualified = false → accepted ≠ [] →
      ∃ t, exec .demand s = .next t ∧
        Executed f
          ((if refused = [] then [0x00#8] else [0x08#8]) ++ le16 (maskOf accepted) ++ le16 (maskOf refused)) false
          (withGrant (withDemandOn .demand accepted (taken s))) t)

/-- CLEAR has a body of 1 byte, a load number: above 15 it is BAD_FIELD, for a load not in LOCKED it is BAD_STATE, and a LOCKED load
goes to OFF with demand OFF and retries used 0, keeping its trip cause, with its LOAD_STATE report of cause CLEAR, under KILL as
well (R164). -/
def Obligations.ClearReleasesALockedLoad : Prop :=
  ∀ (f : Frame) (s : State), MayExecute 0x11#8 f s →
    (f.body.length ≠ 1 → ∃ t, exec .clear s = .next t ∧ Executed f [0x02#8] false (taken s) t) ∧
    (∀ b : Byte, f.body = [b] → 15 < b.toNat →
      ∃ t, exec .clear s = .next t ∧ Executed f [0x03#8] false (taken s) t) ∧
    (∀ (b : Byte) (n : LoadIx), f.body = [b] → b.toNat = n.val → s.loads[n].state ≠ .locked →
      ∃ t, exec .clear s = .next t ∧ Executed f [0x04#8] false (taken s) t) ∧
    (∀ (b : Byte) (n : LoadIx), f.body = [b] → b.toNat = n.val → s.loads[n].state = .locked →
      ∃ t, exec .clear s = .next t ∧
        Executed f [0x00#8] false
          { taken s with
            loads := s.loads.set n { s.loads[n] with state := .off, demand := false, retries := 0 }
            store := s.store.post s.timeBase [.loadState n .locked .off .clear 0 (s.lastCurrent n)] } t)

/-- SET LOAD: its fields are checked first (BAD_FIELD), then the state of the load (BAD_STATE out of OFF); accepted, the whole
configuration is replaced, retries used and both streaks become 0 and the dirty flag is set; no report is posted (R29, R157,
R165). -/
def Obligations.SetLoadReplacesTheConfiguration : Prop :=
  ∀ (f : Frame) (s : State), MayExecute 0x12#8 f s → f.body.length = 14 →
    (15 < u8 f.body 0 ∨ LoadConfig.ofBody f.body = none →
      ∃ t, exec .setLoad s = .next t ∧ Executed f [0x03#8] false (taken s) t) ∧
    (∀ (n : LoadIx) (c : LoadConfig), u8 f.body 0 = n.val → LoadConfig.ofBody f.body = some c →
      s.loads[n].state ≠ .off → ∃ t, exec .setLoad s = .next t ∧ Executed f [0x04#8] false (taken s) t) ∧
    (∀ (n : LoadIx) (c : LoadConfig), u8 f.body 0 = n.val → LoadConfig.ofBody f.body = some c →
      s.loads[n].state = .off →
      ∃ t, exec .setLoad s = .next t ∧
        Executed f [0x00#8] false
          { reconfigured { s.ws with loads := s.ws.loads.set n c } (taken s) with
            loads := s.loads.set n { s.loads[n] with retries := 0, overStreak := 0, senseStreak := 0 } } t)

/-! ### Requests of the severity unit and the globals -/

/-- FORCE LEVEL of 0 to 4 sets the host floor and forms the depth, with its reports, sheds and restore hold, after which a grant is
considered, and replies with the floor, the depth and its contributor; above 4 it is BAD_FIELD (R37, R58 to R62, R167). -/
def Obligations.ForceLevelSetsTheFloorAndFormsTheDepth : Prop :=
  ∀ (f : Frame) (b : Byte) (s : State), MayExecute 0x18#8 f s → f.body = [b] →
    (4 < b.toNat → ∃ t, exec .forceLevel s = .next t ∧ Executed f [0x03#8] false (taken s) t) ∧
    (b.toNat ≤ 4 →
      let own := withGrant (withDepth { taken s with sev := { s.sev with hostFloor := b.toNat } })
      ∃ t, exec .forceLevel s = .next t ∧
        Executed f ([0x00#8, b] ++ byte own.sev.depth ++ byte (contributorCode own.sev.contributor)) false own t)

/-- SET LADDER: a body that fails R69's own checks, or enables a ladder on a channel outside the scan list, is BAD_FIELD; accepted,
the configuration is replaced, the dynamic fields follow the table of R70 with a LEVEL report where the level changes, the depth
is formed and a grant considered, the dirty flag is set, and the reply carries level and depth; a ladder that it enables or gives a
new source takes no reading that has arrived already (R37, R56, R69, R70, R83, R168). That the LEVEL report carries the source of
the new configuration is the model's reading (log 19). -/
def Obligations.SetLadderFollowsTheEnableTable : Prop :=
  ∀ (f : Frame) (s : State), MayExecute 0x19#8 f s → f.body.length = 23 →
    (3 < u8 f.body 0 ∨ LadderConfig.ofBody f.body = none →
      ∃ t, exec .setLadder s = .next t ∧ Executed f [0x03#8] false (taken s) t) ∧
    (∀ c, LadderConfig.ofBody f.body = some c → c.enabled = true → c.source ∉ s.ws.scanList →
      ∃ t, exec .setLadder s = .next t ∧ Executed f [0x03#8] false (taken s) t) ∧
    (∀ (k : LadderIx) (c : LadderConfig), u8 f.body 0 = k.val → LadderConfig.ofBody f.body = some c →
      (c.enabled = true → c.source ∈ s.ws.scanList) →
      let own := ladderSet k c (taken s)
      ∃ t, exec .setLadder s = .next t ∧
        Executed f ([0x00#8] ++ byte own.sev.ladders[k].level ++ byte own.sev.depth) false own t)

/-- SET CUTOFF: an entry outside 1 to 8, or greater than the one before it, is BAD_FIELD; accepted, the table is replaced, the loads
newly shed at the present depth act at once, the restore hold is started or restarted where a load in SHED is not shed under the
new table, a grant is considered, and the dirty flag is set (R37, R64, R65, R169). -/
def Obligations.SetCutoffShedsAtOnceAndRestoresLater : Prop :=
  ∀ (f : Frame) (b0 b1 b2 b3 : Byte) (s : State), MayExecute 0x1A#8 f s → f.body = [b0, b1, b2, b3] →
    let fits := (∀ b ∈ f.body, 1 ≤ b.toNat ∧ b.toNat ≤ 8) ∧ b1.toNat ≤ b0.toNat ∧ b2.toNat ≤ b1.toNat ∧
      b3.toNat ≤ b2.toNat
    (¬ fits → ∃ t, exec .setCutoff s = .next t ∧ Executed f [0x03#8] false (taken s) t) ∧
    (fits → ∃ t, exec .setCutoff s = .next t ∧
      Executed f [0x00#8] false (cutoffSet #v[b0.toNat, b1.toNat, b2.toNat, b3.toNat] (taken s)) t)

/-- SET GLOBALS: a value outside its range is BAD_FIELD and all six stay; accepted, all six are replaced, running timers keep their
times, the depth is formed under the new shed input level, then a grant is considered under the new ceiling, the silence timer is
restarted or cancelled in UP, and the dirty flag is set, all before the reply is queued (R17, R42, R45, R57, R66, R155, R177). -/
def Obligations.SetGlobalsAppliesAllSix : Prop :=
  ∀ (f : Frame) (s : State), MayExecute 0x28#8 f s → f.body.length = 7 →
    (Globals.ofBody f.body = none →
      ∃ t, exec .setGlobals s = .next t ∧ Executed f [0x03#8] false (taken s) t) ∧
    (∀ g, Globals.ofBody f.body = some g →
      ∃ t, exec .setGlobals s = .next t ∧ Executed f [0x00#8] false (globalsSet g (taken s)) t)

/-! ### Requests of the scanner and the watch unit -/

/-- SET SCAN: a list or pause out of range, or a list that drops a channel that an enabled ladder, an active watch or a fitted load
out of OFF is bound to, is BAD_FIELD; accepted, list and pause are replaced at once, the scanner starts over at entry 0 at once
from PAUSED and after the conversion in progress from CONVERTING, priming is checked against the new list and a grant considered,
and the dirty flag is set (R37, R84, R85, R86, R171). -/
def Obligations.SetScanStartsTheNewListOver : Prop :=
  ∀ (f : Frame) (s : State), MayExecute 0x20#8 f s → 2 ≤ f.body.length → f.body.length = u8 f.body 0 + 2 →
    (scanOfBody f.body = none →
      ∃ t, exec .setScan s = .next t ∧ Executed f [0x03#8] false (taken s) t) ∧
    (∀ list pause, scanOfBody f.body = some (list, pause) → ¬ BoundKept list s →
      ∃ t, exec .setScan s = .next t ∧ Executed f [0x03#8] false (taken s) t) ∧
    (∀ list pause, scanOfBody f.body = some (list, pause) → BoundKept list s →
      ∃ t, exec .setScan s = .next t ∧
        Executed f [0x00#8] false
          (withGrant { reconfigured { s.ws with scanList := list, cyclePause := pause } (taken s) with
            scan := scanRestarted list s.scan }) t)

/-- SET CHANNEL has a body of 6 bytes: a channel above 23, or a fault detect other than 0 or 1, is BAD_FIELD and changes nothing;
every gain and every offset is accepted, 8000h included; accepted, the three fields are replaced and the dirty flag is set, and
no other block or channel record changes (R87, R172). -/
def Obligations.SetChannelReplacesItsThreeFields : Prop :=
  ∀ (f : Frame) (s : State), MayExecute 0x21#8 f s →
    (f.body.length ≠ 6 → ∃ t, exec .setChannel s = .next t ∧ Executed f [0x02#8] false (taken s) t) ∧
    (f.body.length = 6 → 23 < u8 f.body 0 ∨ 1 < u8 f.body 5 →
      ∃ t, exec .setChannel s = .next t ∧ Executed f [0x03#8] false (taken s) t) ∧
    (f.body.length = 6 → ∀ ch : ChanIx, u8 f.body 0 = ch.val → u8 f.body 5 ≤ 1 →
      let c : ChannelConfig :=
        { gain := u16 f.body 1, offset := s16 f.body 3, faultDetect := decide (u8 f.body 5 = 1) }
      ∃ t, exec .setChannel s = .next t ∧
        Executed f [0x00#8] false (reconfigured { s.ws with channels := s.ws.channels.set ch c } (taken s)) t)

/-- SET WATCH: a body that fails R99's own checks, or makes a watch active on a channel outside the scan list, is BAD_FIELD;
accepted, the configuration is replaced, the watch stands in PENDING with its flag clear and no last reading, the dirty flag is
set and no report is posted; a watch that it sets out of OFF or gives a new channel takes no reading that has arrived already
(R83, R99, R100, R174). ACK WATCH clears the latched flag of a LATCHED watch and nothing else; a number above 15 is BAD_FIELD and
another mode BAD_STATE (R97, R175). -/
def Obligations.SetWatchRearmsAndAckWatchUnlatches : Prop :=
  (∀ (f : Frame) (s : State), MayExecute 0x24#8 f s → f.body.length = 9 →
    (15 < u8 f.body 0 ∨ WatchConfig.ofBody f.body = none →
      ∃ t, exec .setWatch s = .next t ∧ Executed f [0x03#8] false (taken s) t) ∧
    (∀ c, WatchConfig.ofBody f.body = some c → c.mode ≠ .off → c.channel ∉ s.ws.scanList →
      ∃ t, exec .setWatch s = .next t ∧ Executed f [0x03#8] false (taken s) t) ∧
    (∀ (w : WatchIx) (c : WatchConfig), u8 f.body 0 = w.val → WatchConfig.ofBody f.body = some c →
      (c.mode ≠ .off → c.channel ∈ s.ws.scanList) →
      ∃ t, exec .setWatch s = .next t ∧
        Executed f [0x00#8] false
          { reconfigured { s.ws with watches := s.ws.watches.set w c } (taken s) with
            watches := s.watches.set w WatchRec.reset
            scan := if s.ws.watches[w].mode ≠ .off ∧ c.mode ≠ .off ∧ s.ws.watches[w].channel = c.channel then s.scan
              else { s.scan with toWatches := notTo w s.scan.toWatches } } t)) ∧
  ∀ (f : Frame) (b : Byte) (s : State), MayExecute 0x25#8 f s → f.body = [b] →
    (15 < b.toNat → ∃ t, exec .ackWatch s = .next t ∧ Executed f [0x03#8] false (taken s) t) ∧
    (∀ w : WatchIx, b.toNat = w.val → s.ws.watches[w].mode ≠ .latched →
      ∃ t, exec .ackWatch s = .next t ∧ Executed f [0x04#8] false (taken s) t) ∧
    (∀ w : WatchIx, b.toNat = w.val → s.ws.watches[w].mode = .latched →
      ∃ t, exec .ackWatch s = .next t ∧
        Executed f [0x00#8] false
          { taken s with watches := s.watches.set w { s.watches[w] with latched := false } } t)

/-! ### Profile store, reset, and the requests that read -/

/-- SAVE while a save is in flight is BUSY; otherwise the target, the slot that is not active, becomes INVALID, the save of the
working set begins with the next generation and 45 ms to run, the dirty flag is cleared, and the reply carries target and
generation (R180, R186). At its end a verified save is VALID and active and posts PROFILE_SAVED; a failed one leaves its target
INVALID, sets the dirty flag and posts SAVE_FAILED (R187). Whether the one millisecond that R1 allows passes as well is a free
choice (log 2). -/
def Obligations.SaveWritesTheSlotThatIsNotActive : Prop :=
  (∀ (f : Frame) (s : State), MayExecute 0x30#8 f s → f.body = [] →
    (s.prof.save.isSome = true → ∃ t, exec .save s = .next t ∧ Executed f [0x05#8] false (taken s) t) ∧
    (s.prof.save = none →
      ∃ (t : State) (v : Save), exec .save s = .next t ∧ (saveBegun s).prof.save = some v ∧
        Executed f ([0x00#8] ++ byte v.target.code ++ le32 v.generation.toNat) false (saveBegun (taken s)) t)) ∧
  ∀ (v : Save) (verified : Bool) (s : State), s.prof.save = some v → Expires v.timer s →
    ∃ t, exec (.saveEnd verified) s = .next t ∧ LineTaken (saveEnded v verified (atExpiry v.timer s)) t

/-- An accepted RESET closes taking, and nothing else but its reply follows at once; the reply is marked, and the end of a reply so
marked resets the part with cause REQUEST: every block takes its reset values and nothing runs until the reset ends (R154, R181,
R190; log 17). -/
def Obligations.ResetRequestClosesTaking : Prop :=
  (∀ (r : Reply) (s : State), s.link.tx = .reply r → r.resets = true →
    ∃ t, exec .lineFrees s = .next t ∧ t.phase = .held ∧ BlocksAtReset t ∧ NothingRuns t ∧ t.session.cause = .request) ∧
  ∀ (f : Frame) (s : State), MayExecute 0x3E#8 f s → f.body = [] →
    ∃ t, exec .reset s = .next t ∧
      Executed f [0x00#8] true { taken s with session := { s.session with taking := false } } t

/-- The six READ requests answer with the fields of what they name, as it stands, and change nothing but the queues and the cache,
except that READ LINK with clear yes sets the six counters to 0 after taking them into its reply; a number out of range is
BAD_FIELD (R88, R101, R166, R170, R173, R176, R178, R179). The bytes of READ LOAD stand at the offsets that ReadLoadReplyLayout
gives; the fields of READ SEVERITY and READ SYSTEM stand in the order their rules list them, which is the model's reading
(log 13). -/
def Obligations.ReadRequestsAnswerAndChangeNothing : Prop :=
  (∀ (f : Frame) (b : Byte) (s : State), MayExecute 0x13#8 f s → f.body = [b] →
    (15 < b.toNat → ∃ t, exec .readLoad s = .next t ∧ Executed f [0x03#8] false (taken s) t) ∧
    (∀ n : LoadIx, b.toNat = n.val →
      ∃ t, exec .readLoad s = .next t ∧ Executed f (0x00#8 :: s.loadFields n) false (taken s) t)) ∧
  (∀ (f : Frame) (b : Byte) (s : State), MayExecute 0x1B#8 f s → f.body = [b] →
    (4 < b.toNat → ∃ t, exec .readSeverity s = .next t ∧ Executed f [0x03#8] false (taken s) t) ∧
    (b.toNat = 4 →
      ∃ t, exec .readSeverity s = .next t ∧ Executed f (0x00#8 :: severityBytes s) false (taken s) t) ∧
    (∀ k : LadderIx, b.toNat = k.val →
      ∃ t, exec .readSeverity s = .next t ∧
        Executed f (0x00#8 :: (ladderBytes s.ws.ladders[k] ++ streakBytes s.sev.ladders[k])) false (taken s) t)) ∧
  (∀ (f : Frame) (first count : Byte) (s : State), MayExecute 0x22#8 f s → f.body = [first, count] →
    (23 < first.toNat ∨ count.toNat = 0 ∨ 10 < count.toNat ∨ 24 < first.toNat + count.toNat →
      ∃ t, exec .readChannels s = .next t ∧ Executed f [0x03#8] false (taken s) t) ∧
    (first.toNat ≤ 23 → 1 ≤ count.toNat → count.toNat ≤ 10 → first.toNat + count.toNat ≤ 24 →
      ∃ t, exec .readChannels s = .next t ∧
        Executed f
          ([0x00#8, first, count] ++
            (List.range count.toNat).flatMap fun i =>
              match s.scan.records.toList[first.toNat + i]? with
              | some r =>
                readingBytes r.latest ++ byte (r.valid.toNat + 2 * r.read.toNat) ++ le16 r.raw ++ le32 r.timestamp.toNat
              | none => []) false (taken s) t)) ∧
  (∀ (f : Frame) (b : Byte) (s : State), MayExecute 0x26#8 f s → f.body = [b] →
    (15 < b.toNat → ∃ t, exec .readWatch s = .next t ∧ Executed f [0x03#8] false (taken s) t) ∧
    (∀ w : WatchIx, b.toNat = w.val →
      ∃ t, exec .readWatch s = .next t ∧
        Executed f
          ([0x00#8] ++ watchBytes s.ws.watches[w] ++ byte s.watches[w].state.code ++ yesNoByte s.watches[w].latched ++
            readingBytes s.watches[w].last) false (taken s) t)) ∧
  (∀ (f : Frame) (s : State), MayExecute 0x29#8 f s → f.body = [] →
    ∃ t, exec .readSystem s = .next t ∧ Executed f (0x00#8 :: systemBytes s) false (taken s) t) ∧
  ∀ (f : Frame) (b : Byte) (s : State), MayExecute 0x2A#8 f s → f.body = [b] →
    let c := s.link.stats
    let body := [0x00#8] ++ le16 c.accepted ++ le16 c.dropped ++ le16 c.length ++ le16 c.timeout ++ le16 c.framing ++
      le16 c.crc
    (1 < b.toNat → ∃ t, exec .readLink s = .next t ∧ Executed f [0x03#8] false (taken s) t) ∧
    (b.toNat = 0 → ∃ t, exec .readLink s = .next t ∧ Executed f body false (taken s) t) ∧
    (b.toNat = 1 →
      ∃ t, exec .readLink s = .next t ∧
        Executed f body false
          (withStats { accepted := 0, dropped := 0, length := 0, timeout := 0, framing := 0, crc := 0 } (taken s)) t)

/-- The layout of the READ LOAD reply: 36 bytes, each field at its offset (R203). The layout of a report record: 24 bytes, with
sequence number, kind code, marks, timestamp and the 16 bytes of the payload at their offsets, the payload's fields in the order of
R202 and 00h in the bytes that its kind does not use (R201, R202); the report frame has kind 7Fh, tag 00h and the record as its
body (R133). A SNAPSHOT record carries eight readings. -/
def Obligations.ReadLoadReplyLayout : Prop :=
  (∀ r : Record,
    let b := r.bytes
    let used := (payloadBytes r.payload).2
    (∀ values, r.payload = .snapshot values → values.length = 8) →
      b.length = 24 ∧ used.length ≤ 16 ∧ u16 b 0 = r.number.toNat ∧ b[2]? = some (payloadBytes r.payload).1 ∧
        u8 b 3 = r.first.toNat + 2 * r.last.toNat + 4 * r.resent.toNat ∧
        u16 b 4 + 65536 * u16 b 6 = r.timestamp.toNat ∧ b.drop 8 = used ++ List.replicate (16 - used.length) 0x00#8 ∧
        reportFrame r = mkFrame 0x7F#8 0x00#8 b) ∧
  ∀ (n : LoadIx) (s : State),
    let b := 0x00#8 :: s.loadFields n
    let c := s.ws.loads[n]
    let r := s.loads[n]
    b.length = 36 ∧ u8 b 1 = n.val ∧ u8 b 2 = c.fitted.toNat ∧ u8 b 3 = c.priority % 256 ∧ u8 b 4 = c.settle % 256 ∧
      u16 b 5 = c.inrush % 65536 ∧ u16 b 7 = c.runLimit % 65536 ∧ u8 b 9 = c.confirm % 256 ∧ u8 b 10 = c.budget % 256 ∧
      u8 b 11 = c.backoff % 256 ∧ u8 b 12 = c.feedback.code ∧ u8 b 13 = c.orphan.code ∧ u8 b 14 = c.autostart.toNat ∧
      u8 b 15 = r.demand.toNat ∧ u8 b 16 = r.state.code ∧ u8 b 17 = r.retries % 256 ∧
      u8 b 18 = (match r.tripCause with | some x => x.code | none => 0xFF) ∧ u8 b 19 = r.overStreak % 256 ∧
      u8 b 20 = r.senseStreak % 256 ∧
      u8 b 21 = r.settle.isRunning.toNat + 2 * r.backoff.isRunning.toNat + 4 * r.cleanRun.isRunning.toNat +
        8 * r.entry.isSome.toNat + 16 * s.quals.pg[n].qualified.toNat ∧
      u16 b 22 = r.settle.left % 65536 ∧ u16 b 24 + 65536 * u16 b 26 = r.backoff.left % 4294967296 ∧
      u16 b 28 + 65536 * u16 b 30 = r.cleanRun.left % 4294967296 ∧
      u16 b 32 = (match r.entry with | some e => e.toNat | none => 0) ∧
      (s.lastCurrent n = none → u16 b 34 = 0x8000) ∧
      (∀ v, s.lastCurrent n = some v → -32768 ≤ v → v ≤ 32767 → s16 b 34 = v)

/-- What the SET bodies carry and the part reads agree: a body is accepted exactly when it is the byte-for-byte encoding of a
configuration within the ranges of its rule, and that configuration is the one read from it, so that no bit of a body is dropped
(R73, R85, R99, R165, R168, R172, R174, R177, R199). -/
def Obligations.SetBodiesCarryTheirConfigurations : Prop :=
  (∀ (body : List Byte) (c : LoadConfig), body.length = 14 →
    (LoadConfig.ofBody body = some c ↔
      body.tail = c.bytes ∧ c.priority ≤ 7 ∧ 1 ≤ c.settle ∧ c.settle ≤ 255 ∧ c.inrush ≤ 32767 ∧ c.runLimit ≤ 32767 ∧
        1 ≤ c.confirm ∧ c.confirm ≤ 8 ∧ c.budget ≤ 15 ∧ 1 ≤ c.backoff ∧ c.backoff ≤ 255)) ∧
  (∀ (body : List Byte) (c : LadderConfig), body.length = 23 →
    (LadderConfig.ofBody body = some c ↔
      body.tail = c.bytes ∧ 1 ≤ c.top ∧ c.top ≤ 4 ∧ 1 ≤ c.confirm ∧ c.confirm ≤ 8 ∧ c.fault ≤ c.top ∧
        (∀ k, 1 ≤ k → k ≤ 4 → Limit (c.enterAt k) ∧ Limit (c.exitAt k)) ∧
        (c.direction = .rising →
          (∀ j k, 1 ≤ j → j < k → k ≤ c.top → c.enterAt j < c.enterAt k ∧ c.exitAt j < c.exitAt k) ∧
            ∀ k, 1 ≤ k → k ≤ c.top → c.exitAt k < c.enterAt k) ∧
        (c.direction = .falling →
          (∀ j k, 1 ≤ j → j < k → k ≤ c.top → c.enterAt k < c.enterAt j ∧ c.exitAt k < c.exitAt j) ∧
            ∀ k, 1 ≤ k → k ≤ c.top → c.enterAt k < c.exitAt k))) ∧
  (∀ (body : List Byte) (c : WatchConfig), body.length = 9 →
    (WatchConfig.ofBody body = some c ↔
      body.tail = watchBytes c ∧ Limit c.low ∧ Limit c.high ∧ c.low < c.high ∧ c.hysteresis ≤ 32767 ∧
        (c.hysteresis : Int) < c.high - c.low)) ∧
  (∀ (body : List Byte) (c : ChannelConfig), body.length = 6 →
    (ChannelConfig.ofBody body = some c ↔
      body.tail = channelBytes c ∧ c.gain ≤ 65535 ∧ -32768 ≤ c.offset ∧ c.offset ≤ 32767)) ∧
  (∀ (body : List Byte) (g : Globals), body.length = 7 →
    (Globals.ofBody body = some g ↔
      body = globalsBytes g ∧ 1 ≤ g.cleanRun ∧ g.cleanRun ≤ 255 ∧ g.startGap ≤ 255 ∧ g.startCeiling ≤ 4 ∧
        1 ≤ g.restoreHold ∧ g.restoreHold ≤ 600 ∧ g.silenceTimeout ≤ 255 ∧ g.shedInputLevel ≤ 4)) ∧
  ∀ (body : List Byte) (list : List ChanIx) (pause : Nat), 2 ≤ body.length → body.length = u8 body 0 + 2 →
    (scanOfBody body = some (list, pause) ↔
      body.tail = scanBytes list pause ∧ 1 ≤ list.length ∧ list.length ≤ 32 ∧ pause ≤ 250)

/-! ### Scanner, ladders, watches and loads -/

/-- The end of a conversion with a raw value of 0 to 4095: the raw value is scaled and judged, a SENSOR report tells a change of
validity, the channel record is updated, priming is checked, the reading is handed to the ladders, the watches and the load bound
to its channel at this moment, and the next conversion or the pause begins (R76, R78 to R84, R86). That a reading handed on waits
in a list for each of the three groups is the model's form (log 6). A grant that is due is made before it (log 5); a converter
that converts nothing gives no reading, and none has a raw value above 4095 (log 3). -/
def Obligations.ReadingArrivalUpdatesTheChannel : Prop :=
  ∀ (raw : Nat) (s : State), ¬ GrantDue s →
    (∀ (ch : ChanIx) (restart : Bool), s.scan.state = .converting ch restart → raw ≤ 4095 → s.ws.scanList ≠ [] →
      ∃ t, exec (.readingArrival raw) s = .next t ∧
        LineTaken
          { s with
            scan := scanAfter ch restart raw s
            store := if s.scan.records[ch].valid = !invalidAt s.ws.channels[ch] raw then s.store
              else s.store.post s.timeBase
                [.sensor ch (!invalidAt s.ws.channels[ch] raw) raw (readingOf s.ws.channels[ch] raw)] } t) ∧
    (s.scan.state = .stopped ∨ s.scan.state = .paused ∨ 4095 < raw → exec (.readingArrival raw) s = .next s)

/-- Three timers: the pause, at whose expiry entry 0 is converted (R76); the gap, which stops, after which a grant is considered
(R41, R45); and the clean run of a load in ON, whose retries used return to 0 with no report (R16). Whether the one millisecond
that R1 allows passes as well is a free choice (log 2). -/
def Obligations.PauseGapAndCleanRunExpire : Prop :=
  ∀ s : State,
    (s.scan.state = .paused → Expires s.scan.pause s → s.ws.scanList ≠ [] →
      let p := atExpiry s.scan.pause s
      ∃ t, exec .pauseExpiry s = .next t ∧
        LineTaken { p with scan := convertingEntry p.ws.scanList 0 { p.scan with pause := .stopped } } t) ∧
    (Expires s.seq.gap s →
      let p := atExpiry s.seq.gap s
      ∃ t, exec .gapExpiry s = .next t ∧ LineTaken (withGrant { p with seq := { p.seq with gap := .stopped } }) t) ∧
    (∀ n : LoadIx, s.loads[n].state = .on → Expires s.loads[n].cleanRun s →
      let p := atExpiry s.loads[n].cleanRun s
      ∃ t, exec (.cleanRunExpiry n) s = .next t ∧
        LineTaken { p with loads := p.loads.set n { p.loads[n] with retries := 0, cleanRun := .stopped } } t)

/-- A reading at the severity unit: every ladder bound to its channel, in ascending order, counts it by R52 to R55, a change of
level posts a LEVEL report, then the depth is formed once and a grant considered (R37, R51 to R56, R59, R83). That the reading
waits in a list until this command is the model's form (log 6). -/
def Obligations.LadderEvaluationWalksTheLevels : Prop :=
  ∀ (d : Delivery (List LadderIx)) (rest : List (Delivery (List LadderIx))) (s : State), s.scan.toLadders = d :: rest →
    ∃ t, exec .ladderEvaluation s = .next t ∧
      LineTaken (laddersAfter d { s with scan := { s.scan with toLadders := rest } }) t

/-- A reading at the watch unit: every watch bound to its channel, in ascending order, moves by the tables of R92 and R93 and
by R94, and posts a WATCH report as its mode decides, setting the latched flag of a LATCHED watch (R83, R91 to R98). That the
reading waits in a list until this command, and that the report carries the time of this command, is the model's form (log 6). -/
def Obligations.WatchEvaluationFollowsItsTables : Prop :=
  ∀ (d : Delivery (List WatchIx)) (rest : List (Delivery (List WatchIx))) (s : State), s.scan.toWatches = d :: rest →
    ∃ t, exec .watchEvaluation s = .next t ∧
      LineTaken (watchesAfter d { s with scan := { s.scan with toWatches := rest } }) t

/-- A reading of In at load n: in STARTING it is judged against the inrush limit, in ON against the run limit, an invalid one
counts in the sense-fault streak, a streak at its end trips the load, and a trip in STARTING, which releases the start slot, is
followed by a grant where one is due; in every other state the load ignores it (R11, R13, R18, R19, R20, R37). That the reading
waits in a list until this command is the model's form (log 6). -/
def Obligations.LoadReadingJudgesOrIgnores : Prop :=
  ∀ (d : Delivery LoadIx) (rest : List (Delivery LoadIx)) (s : State), s.scan.toLoads = d :: rest →
    let n := d.bound
    let p : State := { s with scan := { s.scan with toLoads := rest } }
    (s.loads[n].state = .starting →
      ∃ t, exec .loadReading s = .next t ∧ LineTaken (withGrant (loadAfter n s.ws.loads[n].inrush .inrush d.reading p)) t) ∧
    (s.loads[n].state = .on →
      ∃ t, exec .loadReading s = .next t ∧ LineTaken (loadAfter n s.ws.loads[n].runLimit .overcurrent d.reading p) t) ∧
    (s.loads[n].state ≠ .starting → s.loads[n].state ≠ .on →
      ∃ t, exec .loadReading s = .next t ∧ LineTaken p t)

/-! ### Grant, timers of a load, hold, silence -/

/-- The start slot goes to the head of the queue exactly when it is free, the gap timer is not running, the priming flag is set,
the depth is not above the start ceiling and the queue is not empty; the head then goes to STARTING with its settle timer and
its LOAD_STATE report of cause GRANT. When any one condition fails nothing changes (R10, R36, R38). Every other event makes its
grant itself: after a command the five conditions hold together only where a reading has just set the priming flag, or where they
held before and the command neither considers a grant nor comes after one (R37; 2-7); and a request, a conversion or an expiry
that meets a due grant comes after it. That the reading which primes leaves its grant to START_GRANT is read from R84 (log 5). -/
def Obligations.StartGrantNeedsAllFiveConditions : Prop :=
  (∀ s : State,
    (∀ (e : QueueEntry) (rest : List QueueEntry), s.seq.queue = e :: rest → GrantDue s →
      ∃ t, exec .startGrant s = .next t ∧ LineTaken (granted e rest s) t) ∧
    (s.seq.slot ≠ none ∨ s.seq.gap ≠ .stopped ∨ s.scan.primed = false ∨ s.ws.globals.startCeiling < s.sev.depth ∨
        s.seq.queue = [] →
      exec .startGrant s = .next s)) ∧
  (∀ (c : Instr) (s p : State), followsGrant c = true → exec .startGrant s = .next p → exec c s = exec c p) ∧
  ∀ (c : Instr) (s t : State), exec c s = .next t → GrantDue t →
    (∃ raw, c = .readingArrival raw ∧ s.scan.primed = false) ∨ (GrantDue s ∧ followsGrant c = false)

/-- When the settle timer of a load in STARTING expires, it trips with NO_FEEDBACK where its feedback is REQUIRED and PG is not
qualified-asserted, and otherwise goes to ON with its clean-run timer; the start slot is released either way, and with a start
gap of 0 the head of the queue is granted at the release where the other conditions hold (R12, R19, R40, R42). When the backoff
timer of a load in TRIPPED expires, it goes to OFF with demand OFF, else to SHED if it is shed, else to QUEUED, and a grant is
considered (R21, R37). Whether the one millisecond that R1 allows passes as well is a free choice (log 2). -/
def Obligations.SettleAndBackoffExpire : Prop :=
  ∀ (n : LoadIx) (s : State),
    (s.loads[n].state = .starting → Expires s.loads[n].settle s →
      ∃ t, exec (.settleExpiry n) s = .next t ∧
        (s.ws.loads[n].feedback = .required → s.quals.pg[n].qualified = false →
          LineTaken (withGrant (withTrip .noFeedback n (atExpiry s.loads[n].settle s))) t) ∧
        (s.ws.loads[n].feedback = .none ∨ s.quals.pg[n].qualified = true →
          LineTaken (withGrant (withSettled n (atExpiry s.loads[n].settle s))) t)) ∧
    (s.loads[n].state = .tripped → Expires s.loads[n].backoff s →
      ∃ t, exec (.backoffExpiry n) s = .next t ∧
        LineTaken (withGrant (withBackoffEnded n (atExpiry s.loads[n].backoff s))) t)

/-- When the restore hold timer expires it stops, and each load in SHED that is not shed at the present depth joins the queue in
ascending order of load number, with cause RESTORE; the others stay; a grant is considered once (R25, R37, R46, R67). Whether the
one millisecond that R1 allows passes as well is a free choice (log 2). -/
def Obligations.RestoreHoldExpiryQueuesUnshedLoads : Prop :=
  ∀ s : State, Expires s.sev.hold s →
    let p := atExpiry s.sev.hold s
    ∃ t, exec .restoreHoldExpiry s = .next t ∧
      LineTaken (withGrant (withRestored { p with sev := { p.sev with hold := .stopped } })) t

/-- When the silence timer expires in UP the session is LOST, HOST_LOST is posted, credits are 0 and every SENT record is POSTED
again, then the orphan action of each fitted load is applied in ascending order, and a grant is considered once (R27, R37, R120,
R148). Whether the one millisecond that R1 allows passes as well is a free choice (log 2). -/
def Obligations.SilenceExpiryDeclaresTheHostLost : Prop :=
  ∀ s : State, s.session.state = .up → Expires s.session.silence s →
    ∃ t, exec .silenceExpiry s = .next t ∧ LineTaken (hostLost (atExpiry s.session.silence s)) t

/-! ### Pins -/

/-- A change of PGn, KILL_N or SHED_N starts or abandons the qualification time of its own qualifier and changes nothing else; while
a reset is held no qualifier runs (R14, R190, R196). That the pin is followed while a reset is held is the model's choice (log 10),
and a change to the level the pin has already does nothing (log 3). -/
def Obligations.PinChangesStartTheirQualifier : Prop :=
  ∀ (n : LoadIx) (level : PinLevel) (s : State),
    let runs := decide (s.phase = .selecting ∨ s.phase = .running)
    exec (.pgPinChange n level) s =
        .next { s with quals := { s.quals with pg := s.quals.pg.set n (pinChanged runs true 5 level s.quals.pg[n]) } } ∧
      exec (.killPinChange level) s =
        .next { s with quals := { s.quals with kill := pinChanged runs false 10 level s.quals.kill } } ∧
      exec (.shedPinChange level) s =
        .next { s with quals := { s.quals with shed := pinChanged runs false 20 level s.quals.shed } }

/-- When a qualification time passes, the qualified state becomes the pin's. PGn lost by a load in ON with feedback REQUIRED
trips it with FEEDBACK_LOST (R14, R15). From the fourth step of start-up on KILL posts its report and, asserted, sets every
demand OFF with cause KILL (R26, R197), and SHED posts its report and forms the depth (R57, R198), and a grant is considered
(R37); before it both are held (R194). Whether the one millisecond that R1 allows passes as well is a free choice (log 2). -/
def Obligations.QualifiedInputsActOnTheirBlocks : Prop :=
  ∀ s : State,
    (∀ n : LoadIx, Expires s.quals.pg[n].timer s →
      ∃ t, exec (.pgQualified n) s = .next t ∧ LineTaken (pgAdopted n (atExpiry s.quals.pg[n].timer s)) t) ∧
    (Expires s.quals.kill.timer s →
      ∃ t, exec .killQualified s = .next t ∧ LineTaken (killAdopted (atExpiry s.quals.kill.timer s)) t) ∧
    (Expires s.quals.shed.timer s →
      ∃ t, exec .shedQualified s = .next t ∧ LineTaken (shedAdopted (atExpiry s.quals.shed.timer s)) t)

/-! ### Laws that every step keeps -/

/-- Right after reset every block keeps its laws. That this state is a POWER_ON reset held with both slots BLANK (log 8), the
factory working set and the pins at rest before start-up (logs 9 and 10), and the active slot none with generation 0 before the
profile selection (log 11) are the model's choices. -/
def Obligations.ResetStateIsSafe : Prop := Safe State.reset

/-- Until start-up ends every block but the receiver and the qualifiers stays at its reset values, and while a reset is held nothing
runs; every step keeps this (R138, R190, R191). That the active slot is none, the generation 0 and the slots not known until the
profile selection (log 11), and that the reset values stand without supply (log 15), are the model's choices. -/
def Obligations.StepKeepsResetValuesUntilRunning : Prop :=
  ∀ s t : State, ResetOk s → step s = .next t → ResetOk t

/-- Every step keeps the working set, the image of a save in flight and the images of the nonvolatile slots within what the SET
requests accept, every enabled ladder and active watch on a scanned channel (R83, R182, R183, R193); and it keeps the active slot
VALID under the active generation, and a save in flight on the other slot, INVALID (R184, R186). -/
def Obligations.StepKeepsConfigurationAndProfileLawful : Prop :=
  ∀ s t : State, ResetOk s → ConfigOk s → ProfileOk s → step s = .next t → ConfigOk t ∧ ProfileOk t

/-- Every step keeps the report store one run of whole reports with consecutive numbers, SENT before POSTED, within 64 records and
within 64 credits plus SENT records, with a lost count only while no slot is FREE (R102, R106, R107, R109, R111, R201). -/
def Obligations.StepKeepsTheReportStoreLawful : Prop :=
  ∀ s t : State, StoreOk s.store → step s = .next t → StoreOk t.store

/-- Every step keeps the load records and the start sequencer lawful: timers, streaks, entry number and demand as the state allows,
retries used against the budget, the queue ordered and holding each QUEUED load once, the start slot held by the one load in
STARTING, and no demand ON under KILL (R3, R19, R26, R32, R33, R35, R40); and every step keeps the order of joining: entries that
stay keep their order, and a joining load stands behind every entry of its own priority, across a wrap of the counter (R33). -/
def Obligations.StepKeepsLoadsAndQueueLawful : Prop :=
  ∀ s t : State, ResetOk s → LoadsOk s → step s = .next t →
    LoadsOk t ∧ FirstCome s.seq.counter s.seq.queue t.seq.queue

/-- Every step keeps the depth the greatest of the contributions with its contributor, each ladder within its levels and streaks, and
no load shed at the present depth in QUEUED, STARTING or ON (R5, R49, R59, R60, R71). -/
def Obligations.StepKeepsDepthAndShedLoadsLawful : Prop :=
  ∀ s t : State, ResetOk s → ConfigOk s → LoadsOk s → SeverityOk s → step s = .next t → SeverityOk t

/-- Every step keeps the scanner on the channel under its cursor, never STOPPED once start-up has ended, and priming open only for an
unread channel (R74, R76, R84); and keeps each watch where its last reading stands against its window (R90, R92 to R96). -/
def Obligations.StepKeepsScannerAndWatchesLawful : Prop :=
  ∀ s t : State, ResetOk s → ConfigOk s → ScannerOk s → WatchesOk s → step s = .next t → ScannerOk t ∧ WatchesOk t

/-- Every step keeps the queues, the cache, the framer and the counters within their bounds, every queued request a good frame, every
reply body within 96 bytes, no frame waiting by an IDLE transmitter, and the silence timer only in UP (R128, R129, R131 to R135,
R137, R147, R151). -/
def Obligations.StepKeepsLinkAndSessionLawful : Prop :=
  ∀ s t : State, LoadsOk s → LinkOk s → step s = .next t → LinkOk t

/-! ### Rules of the whole part -/

/-- On a ladder that passes R69, beyond and cleared are as R50 defines them for each direction; its thresholds rise with k on a
RISING ladder and fall with k on a FALLING one, each Xk on the better side of Ek; so a reading beyond Ek is beyond every lower
enter threshold, and one that has cleared Xk has cleared every higher exit threshold (R50). -/
def Obligations.BeyondAndClearedRunWithTheThresholds : Prop :=
  ∀ (c : LadderConfig) (v : Int), c.ok = true →
    (c.direction = .rising →
      (∀ k, (c.direction.beyond v (c.enterAt k) = true ↔ c.enterAt k ≤ v) ∧
        (c.direction.cleared v (c.exitAt k) = true ↔ v < c.exitAt k)) ∧
      (∀ j k, 1 ≤ j → j < k → k ≤ c.top → c.enterAt j < c.enterAt k ∧ c.exitAt j < c.exitAt k) ∧
      ∀ k, 1 ≤ k → k ≤ c.top → c.exitAt k < c.enterAt k) ∧
    (c.direction = .falling →
      (∀ k, (c.direction.beyond v (c.enterAt k) = true ↔ v ≤ c.enterAt k) ∧
        (c.direction.cleared v (c.exitAt k) = true ↔ c.exitAt k < v)) ∧
      (∀ j k, 1 ≤ j → j < k → k ≤ c.top → c.enterAt k < c.enterAt j ∧ c.exitAt k < c.exitAt j) ∧
      ∀ k, 1 ≤ k → k ≤ c.top → c.enterAt k < c.exitAt k) ∧
    (∀ j k, 1 ≤ j → j ≤ k → k ≤ c.top → c.direction.beyond v (c.enterAt k) = true →
      c.direction.beyond v (c.enterAt j) = true) ∧
    (∀ j k, 1 ≤ j → j ≤ k → k ≤ c.top → c.direction.cleared v (c.exitAt j) = true →
      c.direction.cleared v (c.exitAt k) = true) ∧
    ∀ k, 1 ≤ k → k ≤ c.top → c.direction.cleared v (c.exitAt k) = true → c.direction.beyond v (c.enterAt k) = false

/-- The session state changes only at the events of the table of R140: DOWN is left only by HELLO, UP by the silence timer, LOST by a
byte that completes a good frame or by HELLO, and every reset leads to DOWN. -/
def Obligations.SessionStateFollowsItsTable : Prop :=
  ∀ (c : Instr) (s t : State), exec c s = .next t → t.session.state ≠ s.session.state →
    (s.session.state = .down ∧ t.session.state = .up ∧ c = .hello) ∨
      (s.session.state = .up ∧ t.session.state = .lost ∧ c = .silenceExpiry) ∨
      (s.session.state = .lost ∧ t.session.state = .up ∧
        (c = .hello ∨ ∃ b kind tag bytes low, c = .byteArrival b false ∧
          s.link.framer = .check kind tag bytes (some low) ∧ (b ++ low : Word) = frameCrc kind tag bytes)) ∨
      (t.session.state = .down ∧ takesReset c s)

/-- A record leaves the store only at an ACK, and only while SENT, or at a reset; what is fixed at its posting does not change, and new
records stand behind all others (R102, R103, R106). It is said of each command at the moment it acts: one that meets a due grant
acts on what the grant leaves (log 5). -/
def Obligations.RecordsLeaveOnlyByAckOrReset : Prop :=
  ∀ (c : Instr) (s t : State), exec c s = .next t → StoreOk s.store → ¬ takesReset c s →
    (followsGrant c = true → ¬ GrantDue s) →
    ∃ (freed kept new : List Record), s.store.records = freed ++ kept ∧
      t.store.records.map posting = (kept ++ new).map posting ∧ (∀ r ∈ freed, r.sent = true) ∧
      (freed ≠ [] → c = .ack)

/-- ENn is active exactly while load n is in STARTING or ON (R4), and ATTN_N is asserted exactly while a record is POSTED and
credits are 0 (R122). An EN output becomes active only at a grant to the head of the start queue as the event leaves it, under all
five conditions, in a command at which a grant is considered (R10, R36, R37, R38): the priming flag, the depth, the ceiling and the
queue that the grant finds are those the command leaves, but for the head, which the grant has removed. In a lawful state the head
is the entry of a load in QUEUED; it stood in the queue before the command, or its load joined in this command out of OFF, SHED or
TRIPPED, with a number the counter gave; and the queue it heads is ordered first come, first served (R32, R33). -/
def Obligations.EnableBecomesActiveOnlyAtAGrant : Prop :=
  (∀ (s : State) (n : LoadIx), s.en n = true ↔ s.loads[n].state = .starting ∨ s.loads[n].state = .on) ∧
  (∀ s : State, s.attnAsserted = true ↔ (∃ r ∈ s.store.records, r.sent = false) ∧ s.store.credits = 0) ∧
  ∀ (c : Instr) (s t : State) (n : LoadIx), (followsGrant c = true → ¬ GrantDue s) → exec c s = .next t →
    s.en n = false → t.en n = true →
    considersGrant c = true ∧
      ∃ (u : State) (e : QueueEntry) (rest : List QueueEntry), GrantDue u ∧ u.seq.queue = e :: rest ∧ e.load = n ∧
        t.loads = (granted e rest u).loads ∧ t.seq = (granted e rest u).seq ∧ t.ws = u.ws ∧ t.scan = u.scan ∧
        t.sev = u.sev ∧
        (ResetOk s → LoadsOk s →
          u.loads[n].state = .queued ∧ u.loads[n].entry = some e.number ∧ e.priority = t.ws.loads[n].priority ∧
            (∀ x ∈ rest, e.priority ≤ x.priority) ∧ FirstCome s.seq.counter s.seq.queue u.seq.queue ∧
            ((s.loads[n].state = .queued ∧ e ∈ s.seq.queue) ∨
              ((s.loads[n].state = .off ∨ s.loads[n].state = .shed ∨ s.loads[n].state = .tripped) ∧
                (e.number - s.seq.counter).toNat < (t.seq.counter - s.seq.counter).toNat)))
end

