-- ==== Sys2Proof/Laws/State.lean ====
section
/-! SUPPORT. One lemma per field per update: what each operation leaves as it was. Made from the list of operations and the
blocks each writes. -/

set_option linter.unusedSimpArgs false

namespace Sys2Proof.Machine

/-! ### Plain record updates -/

@[simp] theorem State.setLoad_pending (n : LoadIx) (r : LoadRec) (s : State) : (s.setLoad n r).pending = s.pending := rfl
@[simp] theorem State.setLoad_phase (n : LoadIx) (r : LoadRec) (s : State) : (s.setLoad n r).phase = s.phase := rfl
@[simp] theorem State.setLoad_timeBase (n : LoadIx) (r : LoadRec) (s : State) : (s.setLoad n r).timeBase = s.timeBase := rfl
@[simp] theorem State.setLoad_startup (n : LoadIx) (r : LoadRec) (s : State) : (s.setLoad n r).startup = s.startup := rfl
@[simp] theorem State.setLoad_ws (n : LoadIx) (r : LoadRec) (s : State) : (s.setLoad n r).ws = s.ws := rfl
@[simp] theorem State.setLoad_seq (n : LoadIx) (r : LoadRec) (s : State) : (s.setLoad n r).seq = s.seq := rfl
@[simp] theorem State.setLoad_sev (n : LoadIx) (r : LoadRec) (s : State) : (s.setLoad n r).sev = s.sev := rfl
@[simp] theorem State.setLoad_scan (n : LoadIx) (r : LoadRec) (s : State) : (s.setLoad n r).scan = s.scan := rfl
@[simp] theorem State.setLoad_watches (n : LoadIx) (r : LoadRec) (s : State) : (s.setLoad n r).watches = s.watches := rfl
@[simp] theorem State.setLoad_store (n : LoadIx) (r : LoadRec) (s : State) : (s.setLoad n r).store = s.store := rfl
@[simp] theorem State.setLoad_link (n : LoadIx) (r : LoadRec) (s : State) : (s.setLoad n r).link = s.link := rfl
@[simp] theorem State.setLoad_session (n : LoadIx) (r : LoadRec) (s : State) : (s.setLoad n r).session = s.session := rfl
@[simp] theorem State.setLoad_prof (n : LoadIx) (r : LoadRec) (s : State) : (s.setLoad n r).prof = s.prof := rfl
@[simp] theorem State.setLoad_quals (n : LoadIx) (r : LoadRec) (s : State) : (s.setLoad n r).quals = s.quals := rfl
@[simp] theorem State.setLoad_choices (n : LoadIx) (r : LoadRec) (s : State) : (s.setLoad n r).choices = s.choices := rfl
@[simp] theorem State.post_pending (ps : List Payload) (s : State) : (s.post ps).pending = s.pending := rfl
@[simp] theorem State.post_phase (ps : List Payload) (s : State) : (s.post ps).phase = s.phase := rfl
@[simp] theorem State.post_timeBase (ps : List Payload) (s : State) : (s.post ps).timeBase = s.timeBase := rfl
@[simp] theorem State.post_startup (ps : List Payload) (s : State) : (s.post ps).startup = s.startup := rfl
@[simp] theorem State.post_ws (ps : List Payload) (s : State) : (s.post ps).ws = s.ws := rfl
@[simp] theorem State.post_loads (ps : List Payload) (s : State) : (s.post ps).loads = s.loads := rfl
@[simp] theorem State.post_seq (ps : List Payload) (s : State) : (s.post ps).seq = s.seq := rfl
@[simp] theorem State.post_sev (ps : List Payload) (s : State) : (s.post ps).sev = s.sev := rfl
@[simp] theorem State.post_scan (ps : List Payload) (s : State) : (s.post ps).scan = s.scan := rfl
@[simp] theorem State.post_watches (ps : List Payload) (s : State) : (s.post ps).watches = s.watches := rfl
@[simp] theorem State.post_link (ps : List Payload) (s : State) : (s.post ps).link = s.link := rfl
@[simp] theorem State.post_session (ps : List Payload) (s : State) : (s.post ps).session = s.session := rfl
@[simp] theorem State.post_prof (ps : List Payload) (s : State) : (s.post ps).prof = s.prof := rfl
@[simp] theorem State.post_quals (ps : List Payload) (s : State) : (s.post ps).quals = s.quals := rfl
@[simp] theorem State.post_choices (ps : List Payload) (s : State) : (s.post ps).choices = s.choices := rfl
@[simp] theorem State.setDemand_pending (n : LoadIx) (on : Bool) (s : State) : (s.setDemand n on).pending = s.pending := rfl
@[simp] theorem State.setDemand_phase (n : LoadIx) (on : Bool) (s : State) : (s.setDemand n on).phase = s.phase := rfl
@[simp] theorem State.setDemand_timeBase (n : LoadIx) (on : Bool) (s : State) : (s.setDemand n on).timeBase = s.timeBase := rfl
@[simp] theorem State.setDemand_startup (n : LoadIx) (on : Bool) (s : State) : (s.setDemand n on).startup = s.startup := rfl
@[simp] theorem State.setDemand_ws (n : LoadIx) (on : Bool) (s : State) : (s.setDemand n on).ws = s.ws := rfl
@[simp] theorem State.setDemand_seq (n : LoadIx) (on : Bool) (s : State) : (s.setDemand n on).seq = s.seq := rfl
@[simp] theorem State.setDemand_sev (n : LoadIx) (on : Bool) (s : State) : (s.setDemand n on).sev = s.sev := rfl
@[simp] theorem State.setDemand_scan (n : LoadIx) (on : Bool) (s : State) : (s.setDemand n on).scan = s.scan := rfl
@[simp] theorem State.setDemand_watches (n : LoadIx) (on : Bool) (s : State) : (s.setDemand n on).watches = s.watches := rfl
@[simp] theorem State.setDemand_store (n : LoadIx) (on : Bool) (s : State) : (s.setDemand n on).store = s.store := rfl
@[simp] theorem State.setDemand_link (n : LoadIx) (on : Bool) (s : State) : (s.setDemand n on).link = s.link := rfl
@[simp] theorem State.setDemand_session (n : LoadIx) (on : Bool) (s : State) : (s.setDemand n on).session = s.session := rfl
@[simp] theorem State.setDemand_prof (n : LoadIx) (on : Bool) (s : State) : (s.setDemand n on).prof = s.prof := rfl
@[simp] theorem State.setDemand_quals (n : LoadIx) (on : Bool) (s : State) : (s.setDemand n on).quals = s.quals := rfl
@[simp] theorem State.setDemand_choices (n : LoadIx) (on : Bool) (s : State) : (s.setDemand n on).choices = s.choices := rfl
@[simp] theorem State.moveLoad_pending (n : LoadIx) (new : LoadState) (cause : Cause) (s : State) : (s.moveLoad n new cause).pending = s.pending := rfl
@[simp] theorem State.moveLoad_phase (n : LoadIx) (new : LoadState) (cause : Cause) (s : State) : (s.moveLoad n new cause).phase = s.phase := rfl
@[simp] theorem State.moveLoad_timeBase (n : LoadIx) (new : LoadState) (cause : Cause) (s : State) : (s.moveLoad n new cause).timeBase = s.timeBase := rfl
@[simp] theorem State.moveLoad_startup (n : LoadIx) (new : LoadState) (cause : Cause) (s : State) : (s.moveLoad n new cause).startup = s.startup := rfl
@[simp] theorem State.moveLoad_ws (n : LoadIx) (new : LoadState) (cause : Cause) (s : State) : (s.moveLoad n new cause).ws = s.ws := rfl
@[simp] theorem State.moveLoad_sev (n : LoadIx) (new : LoadState) (cause : Cause) (s : State) : (s.moveLoad n new cause).sev = s.sev := rfl
@[simp] theorem State.moveLoad_scan (n : LoadIx) (new : LoadState) (cause : Cause) (s : State) : (s.moveLoad n new cause).scan = s.scan := rfl
@[simp] theorem State.moveLoad_watches (n : LoadIx) (new : LoadState) (cause : Cause) (s : State) : (s.moveLoad n new cause).watches = s.watches := rfl
@[simp] theorem State.moveLoad_link (n : LoadIx) (new : LoadState) (cause : Cause) (s : State) : (s.moveLoad n new cause).link = s.link := rfl
@[simp] theorem State.moveLoad_session (n : LoadIx) (new : LoadState) (cause : Cause) (s : State) : (s.moveLoad n new cause).session = s.session := rfl
@[simp] theorem State.moveLoad_prof (n : LoadIx) (new : LoadState) (cause : Cause) (s : State) : (s.moveLoad n new cause).prof = s.prof := rfl
@[simp] theorem State.moveLoad_quals (n : LoadIx) (new : LoadState) (cause : Cause) (s : State) : (s.moveLoad n new cause).quals = s.quals := rfl
@[simp] theorem State.moveLoad_choices (n : LoadIx) (new : LoadState) (cause : Cause) (s : State) : (s.moveLoad n new cause).choices = s.choices := rfl
@[simp] theorem State.setLadderRec_pending (k : LadderIx) (r : Ladder) (s : State) : (s.setLadderRec k r).pending = s.pending := rfl
@[simp] theorem State.setLadderRec_phase (k : LadderIx) (r : Ladder) (s : State) : (s.setLadderRec k r).phase = s.phase := rfl
@[simp] theorem State.setLadderRec_timeBase (k : LadderIx) (r : Ladder) (s : State) : (s.setLadderRec k r).timeBase = s.timeBase := rfl
@[simp] theorem State.setLadderRec_startup (k : LadderIx) (r : Ladder) (s : State) : (s.setLadderRec k r).startup = s.startup := rfl
@[simp] theorem State.setLadderRec_ws (k : LadderIx) (r : Ladder) (s : State) : (s.setLadderRec k r).ws = s.ws := rfl
@[simp] theorem State.setLadderRec_loads (k : LadderIx) (r : Ladder) (s : State) : (s.setLadderRec k r).loads = s.loads := rfl
@[simp] theorem State.setLadderRec_seq (k : LadderIx) (r : Ladder) (s : State) : (s.setLadderRec k r).seq = s.seq := rfl
@[simp] theorem State.setLadderRec_scan (k : LadderIx) (r : Ladder) (s : State) : (s.setLadderRec k r).scan = s.scan := rfl
@[simp] theorem State.setLadderRec_watches (k : LadderIx) (r : Ladder) (s : State) : (s.setLadderRec k r).watches = s.watches := rfl
@[simp] theorem State.setLadderRec_store (k : LadderIx) (r : Ladder) (s : State) : (s.setLadderRec k r).store = s.store := rfl
@[simp] theorem State.setLadderRec_link (k : LadderIx) (r : Ladder) (s : State) : (s.setLadderRec k r).link = s.link := rfl
@[simp] theorem State.setLadderRec_session (k : LadderIx) (r : Ladder) (s : State) : (s.setLadderRec k r).session = s.session := rfl
@[simp] theorem State.setLadderRec_prof (k : LadderIx) (r : Ladder) (s : State) : (s.setLadderRec k r).prof = s.prof := rfl
@[simp] theorem State.setLadderRec_quals (k : LadderIx) (r : Ladder) (s : State) : (s.setLadderRec k r).quals = s.quals := rfl
@[simp] theorem State.setLadderRec_choices (k : LadderIx) (r : Ladder) (s : State) : (s.setLadderRec k r).choices = s.choices := rfl
@[simp] theorem State.changeLevel_pending (k : LadderIx) (l : Nat) (rd : Reading) (r : Ladder) (s : State) : (s.changeLevel k l rd r).pending = s.pending := rfl
@[simp] theorem State.changeLevel_phase (k : LadderIx) (l : Nat) (rd : Reading) (r : Ladder) (s : State) : (s.changeLevel k l rd r).phase = s.phase := rfl
@[simp] theorem State.changeLevel_timeBase (k : LadderIx) (l : Nat) (rd : Reading) (r : Ladder) (s : State) : (s.changeLevel k l rd r).timeBase = s.timeBase := rfl
@[simp] theorem State.changeLevel_startup (k : LadderIx) (l : Nat) (rd : Reading) (r : Ladder) (s : State) : (s.changeLevel k l rd r).startup = s.startup := rfl
@[simp] theorem State.changeLevel_ws (k : LadderIx) (l : Nat) (rd : Reading) (r : Ladder) (s : State) : (s.changeLevel k l rd r).ws = s.ws := rfl
@[simp] theorem State.changeLevel_loads (k : LadderIx) (l : Nat) (rd : Reading) (r : Ladder) (s : State) : (s.changeLevel k l rd r).loads = s.loads := rfl
@[simp] theorem State.changeLevel_seq (k : LadderIx) (l : Nat) (rd : Reading) (r : Ladder) (s : State) : (s.changeLevel k l rd r).seq = s.seq := rfl
@[simp] theorem State.changeLevel_scan (k : LadderIx) (l : Nat) (rd : Reading) (r : Ladder) (s : State) : (s.changeLevel k l rd r).scan = s.scan := rfl
@[simp] theorem State.changeLevel_watches (k : LadderIx) (l : Nat) (rd : Reading) (r : Ladder) (s : State) : (s.changeLevel k l rd r).watches = s.watches := rfl
@[simp] theorem State.changeLevel_link (k : LadderIx) (l : Nat) (rd : Reading) (r : Ladder) (s : State) : (s.changeLevel k l rd r).link = s.link := rfl
@[simp] theorem State.changeLevel_session (k : LadderIx) (l : Nat) (rd : Reading) (r : Ladder) (s : State) : (s.changeLevel k l rd r).session = s.session := rfl
@[simp] theorem State.changeLevel_prof (k : LadderIx) (l : Nat) (rd : Reading) (r : Ladder) (s : State) : (s.changeLevel k l rd r).prof = s.prof := rfl
@[simp] theorem State.changeLevel_quals (k : LadderIx) (l : Nat) (rd : Reading) (r : Ladder) (s : State) : (s.changeLevel k l rd r).quals = s.quals := rfl
@[simp] theorem State.changeLevel_choices (k : LadderIx) (l : Nat) (rd : Reading) (r : Ladder) (s : State) : (s.changeLevel k l rd r).choices = s.choices := rfl
@[simp] theorem State.queueReply_pending (f : Frame) (b : Bool) (s : State) : (s.queueReply f b).pending = s.pending := rfl
@[simp] theorem State.queueReply_phase (f : Frame) (b : Bool) (s : State) : (s.queueReply f b).phase = s.phase := rfl
@[simp] theorem State.queueReply_timeBase (f : Frame) (b : Bool) (s : State) : (s.queueReply f b).timeBase = s.timeBase := rfl
@[simp] theorem State.queueReply_startup (f : Frame) (b : Bool) (s : State) : (s.queueReply f b).startup = s.startup := rfl
@[simp] theorem State.queueReply_ws (f : Frame) (b : Bool) (s : State) : (s.queueReply f b).ws = s.ws := rfl
@[simp] theorem State.queueReply_loads (f : Frame) (b : Bool) (s : State) : (s.queueReply f b).loads = s.loads := rfl
@[simp] theorem State.queueReply_seq (f : Frame) (b : Bool) (s : State) : (s.queueReply f b).seq = s.seq := rfl
@[simp] theorem State.queueReply_sev (f : Frame) (b : Bool) (s : State) : (s.queueReply f b).sev = s.sev := rfl
@[simp] theorem State.queueReply_scan (f : Frame) (b : Bool) (s : State) : (s.queueReply f b).scan = s.scan := rfl
@[simp] theorem State.queueReply_watches (f : Frame) (b : Bool) (s : State) : (s.queueReply f b).watches = s.watches := rfl
@[simp] theorem State.queueReply_store (f : Frame) (b : Bool) (s : State) : (s.queueReply f b).store = s.store := rfl
@[simp] theorem State.queueReply_session (f : Frame) (b : Bool) (s : State) : (s.queueReply f b).session = s.session := rfl
@[simp] theorem State.queueReply_prof (f : Frame) (b : Bool) (s : State) : (s.queueReply f b).prof = s.prof := rfl
@[simp] theorem State.queueReply_quals (f : Frame) (b : Bool) (s : State) : (s.queueReply f b).quals = s.quals := rfl
@[simp] theorem State.queueReply_choices (f : Frame) (b : Bool) (s : State) : (s.queueReply f b).choices = s.choices := rfl
@[simp] theorem State.dropInbound_pending (s : State) : (s.dropInbound).pending = s.pending := rfl
@[simp] theorem State.dropInbound_phase (s : State) : (s.dropInbound).phase = s.phase := rfl
@[simp] theorem State.dropInbound_timeBase (s : State) : (s.dropInbound).timeBase = s.timeBase := rfl
@[simp] theorem State.dropInbound_startup (s : State) : (s.dropInbound).startup = s.startup := rfl
@[simp] theorem State.dropInbound_ws (s : State) : (s.dropInbound).ws = s.ws := rfl
@[simp] theorem State.dropInbound_loads (s : State) : (s.dropInbound).loads = s.loads := rfl
@[simp] theorem State.dropInbound_seq (s : State) : (s.dropInbound).seq = s.seq := rfl
@[simp] theorem State.dropInbound_sev (s : State) : (s.dropInbound).sev = s.sev := rfl
@[simp] theorem State.dropInbound_scan (s : State) : (s.dropInbound).scan = s.scan := rfl
@[simp] theorem State.dropInbound_watches (s : State) : (s.dropInbound).watches = s.watches := rfl
@[simp] theorem State.dropInbound_store (s : State) : (s.dropInbound).store = s.store := rfl
@[simp] theorem State.dropInbound_session (s : State) : (s.dropInbound).session = s.session := rfl
@[simp] theorem State.dropInbound_prof (s : State) : (s.dropInbound).prof = s.prof := rfl
@[simp] theorem State.dropInbound_quals (s : State) : (s.dropInbound).quals = s.quals := rfl
@[simp] theorem State.dropInbound_choices (s : State) : (s.dropInbound).choices = s.choices := rfl
@[simp] theorem State.setFramer_pending (f : Framer) (s : State) : (s.setFramer f).pending = s.pending := rfl
@[simp] theorem State.setFramer_phase (f : Framer) (s : State) : (s.setFramer f).phase = s.phase := rfl
@[simp] theorem State.setFramer_timeBase (f : Framer) (s : State) : (s.setFramer f).timeBase = s.timeBase := rfl
@[simp] theorem State.setFramer_startup (f : Framer) (s : State) : (s.setFramer f).startup = s.startup := rfl
@[simp] theorem State.setFramer_ws (f : Framer) (s : State) : (s.setFramer f).ws = s.ws := rfl
@[simp] theorem State.setFramer_loads (f : Framer) (s : State) : (s.setFramer f).loads = s.loads := rfl
@[simp] theorem State.setFramer_seq (f : Framer) (s : State) : (s.setFramer f).seq = s.seq := rfl
@[simp] theorem State.setFramer_sev (f : Framer) (s : State) : (s.setFramer f).sev = s.sev := rfl
@[simp] theorem State.setFramer_scan (f : Framer) (s : State) : (s.setFramer f).scan = s.scan := rfl
@[simp] theorem State.setFramer_watches (f : Framer) (s : State) : (s.setFramer f).watches = s.watches := rfl
@[simp] theorem State.setFramer_store (f : Framer) (s : State) : (s.setFramer f).store = s.store := rfl
@[simp] theorem State.setFramer_session (f : Framer) (s : State) : (s.setFramer f).session = s.session := rfl
@[simp] theorem State.setFramer_prof (f : Framer) (s : State) : (s.setFramer f).prof = s.prof := rfl
@[simp] theorem State.setFramer_quals (f : Framer) (s : State) : (s.setFramer f).quals = s.quals := rfl
@[simp] theorem State.setFramer_choices (f : Framer) (s : State) : (s.setFramer f).choices = s.choices := rfl
@[simp] theorem State.countLink_pending (f : LinkStats → LinkStats) (s : State) : (s.countLink f).pending = s.pending := rfl
@[simp] theorem State.countLink_phase (f : LinkStats → LinkStats) (s : State) : (s.countLink f).phase = s.phase := rfl
@[simp] theorem State.countLink_timeBase (f : LinkStats → LinkStats) (s : State) : (s.countLink f).timeBase = s.timeBase := rfl
@[simp] theorem State.countLink_startup (f : LinkStats → LinkStats) (s : State) : (s.countLink f).startup = s.startup := rfl
@[simp] theorem State.countLink_ws (f : LinkStats → LinkStats) (s : State) : (s.countLink f).ws = s.ws := rfl
@[simp] theorem State.countLink_loads (f : LinkStats → LinkStats) (s : State) : (s.countLink f).loads = s.loads := rfl
@[simp] theorem State.countLink_seq (f : LinkStats → LinkStats) (s : State) : (s.countLink f).seq = s.seq := rfl
@[simp] theorem State.countLink_sev (f : LinkStats → LinkStats) (s : State) : (s.countLink f).sev = s.sev := rfl
@[simp] theorem State.countLink_scan (f : LinkStats → LinkStats) (s : State) : (s.countLink f).scan = s.scan := rfl
@[simp] theorem State.countLink_watches (f : LinkStats → LinkStats) (s : State) : (s.countLink f).watches = s.watches := rfl
@[simp] theorem State.countLink_store (f : LinkStats → LinkStats) (s : State) : (s.countLink f).store = s.store := rfl
@[simp] theorem State.countLink_session (f : LinkStats → LinkStats) (s : State) : (s.countLink f).session = s.session := rfl
@[simp] theorem State.countLink_prof (f : LinkStats → LinkStats) (s : State) : (s.countLink f).prof = s.prof := rfl
@[simp] theorem State.countLink_quals (f : LinkStats → LinkStats) (s : State) : (s.countLink f).quals = s.quals := rfl
@[simp] theorem State.countLink_choices (f : LinkStats → LinkStats) (s : State) : (s.countLink f).choices = s.choices := rfl
@[simp] theorem State.goIdle_pending (s : State) : (s.goIdle).pending = s.pending := rfl
@[simp] theorem State.goIdle_phase (s : State) : (s.goIdle).phase = s.phase := rfl
@[simp] theorem State.goIdle_timeBase (s : State) : (s.goIdle).timeBase = s.timeBase := rfl
@[simp] theorem State.goIdle_startup (s : State) : (s.goIdle).startup = s.startup := rfl
@[simp] theorem State.goIdle_ws (s : State) : (s.goIdle).ws = s.ws := rfl
@[simp] theorem State.goIdle_loads (s : State) : (s.goIdle).loads = s.loads := rfl
@[simp] theorem State.goIdle_seq (s : State) : (s.goIdle).seq = s.seq := rfl
@[simp] theorem State.goIdle_sev (s : State) : (s.goIdle).sev = s.sev := rfl
@[simp] theorem State.goIdle_scan (s : State) : (s.goIdle).scan = s.scan := rfl
@[simp] theorem State.goIdle_watches (s : State) : (s.goIdle).watches = s.watches := rfl
@[simp] theorem State.goIdle_store (s : State) : (s.goIdle).store = s.store := rfl
@[simp] theorem State.goIdle_session (s : State) : (s.goIdle).session = s.session := rfl
@[simp] theorem State.goIdle_prof (s : State) : (s.goIdle).prof = s.prof := rfl
@[simp] theorem State.goIdle_quals (s : State) : (s.goIdle).quals = s.quals := rfl
@[simp] theorem State.goIdle_choices (s : State) : (s.goIdle).choices = s.choices := rfl
@[simp] theorem State.restartSilence_pending (s : State) : (s.restartSilence).pending = s.pending := rfl
@[simp] theorem State.restartSilence_phase (s : State) : (s.restartSilence).phase = s.phase := rfl
@[simp] theorem State.restartSilence_timeBase (s : State) : (s.restartSilence).timeBase = s.timeBase := rfl
@[simp] theorem State.restartSilence_startup (s : State) : (s.restartSilence).startup = s.startup := rfl
@[simp] theorem State.restartSilence_ws (s : State) : (s.restartSilence).ws = s.ws := rfl
@[simp] theorem State.restartSilence_loads (s : State) : (s.restartSilence).loads = s.loads := rfl
@[simp] theorem State.restartSilence_seq (s : State) : (s.restartSilence).seq = s.seq := rfl
@[simp] theorem State.restartSilence_sev (s : State) : (s.restartSilence).sev = s.sev := rfl
@[simp] theorem State.restartSilence_scan (s : State) : (s.restartSilence).scan = s.scan := rfl
@[simp] theorem State.restartSilence_watches (s : State) : (s.restartSilence).watches = s.watches := rfl
@[simp] theorem State.restartSilence_store (s : State) : (s.restartSilence).store = s.store := rfl
@[simp] theorem State.restartSilence_link (s : State) : (s.restartSilence).link = s.link := rfl
@[simp] theorem State.restartSilence_prof (s : State) : (s.restartSilence).prof = s.prof := rfl
@[simp] theorem State.restartSilence_quals (s : State) : (s.restartSilence).quals = s.quals := rfl
@[simp] theorem State.restartSilence_choices (s : State) : (s.restartSilence).choices = s.choices := rfl
@[simp] theorem State.setDirty_pending (s : State) : (s.setDirty).pending = s.pending := rfl
@[simp] theorem State.setDirty_phase (s : State) : (s.setDirty).phase = s.phase := rfl
@[simp] theorem State.setDirty_timeBase (s : State) : (s.setDirty).timeBase = s.timeBase := rfl
@[simp] theorem State.setDirty_startup (s : State) : (s.setDirty).startup = s.startup := rfl
@[simp] theorem State.setDirty_ws (s : State) : (s.setDirty).ws = s.ws := rfl
@[simp] theorem State.setDirty_loads (s : State) : (s.setDirty).loads = s.loads := rfl
@[simp] theorem State.setDirty_seq (s : State) : (s.setDirty).seq = s.seq := rfl
@[simp] theorem State.setDirty_sev (s : State) : (s.setDirty).sev = s.sev := rfl
@[simp] theorem State.setDirty_scan (s : State) : (s.setDirty).scan = s.scan := rfl
@[simp] theorem State.setDirty_watches (s : State) : (s.setDirty).watches = s.watches := rfl
@[simp] theorem State.setDirty_store (s : State) : (s.setDirty).store = s.store := rfl
@[simp] theorem State.setDirty_link (s : State) : (s.setDirty).link = s.link := rfl
@[simp] theorem State.setDirty_session (s : State) : (s.setDirty).session = s.session := rfl
@[simp] theorem State.setDirty_quals (s : State) : (s.setDirty).quals = s.quals := rfl
@[simp] theorem State.setDirty_choices (s : State) : (s.setDirty).choices = s.choices := rfl
@[simp] theorem State.setPg_pending (n : LoadIx) (q : Qualifier) (s : State) : (s.setPg n q).pending = s.pending := rfl
@[simp] theorem State.setPg_phase (n : LoadIx) (q : Qualifier) (s : State) : (s.setPg n q).phase = s.phase := rfl
@[simp] theorem State.setPg_timeBase (n : LoadIx) (q : Qualifier) (s : State) : (s.setPg n q).timeBase = s.timeBase := rfl
@[simp] theorem State.setPg_startup (n : LoadIx) (q : Qualifier) (s : State) : (s.setPg n q).startup = s.startup := rfl
@[simp] theorem State.setPg_ws (n : LoadIx) (q : Qualifier) (s : State) : (s.setPg n q).ws = s.ws := rfl
@[simp] theorem State.setPg_loads (n : LoadIx) (q : Qualifier) (s : State) : (s.setPg n q).loads = s.loads := rfl
@[simp] theorem State.setPg_seq (n : LoadIx) (q : Qualifier) (s : State) : (s.setPg n q).seq = s.seq := rfl
@[simp] theorem State.setPg_sev (n : LoadIx) (q : Qualifier) (s : State) : (s.setPg n q).sev = s.sev := rfl
@[simp] theorem State.setPg_scan (n : LoadIx) (q : Qualifier) (s : State) : (s.setPg n q).scan = s.scan := rfl
@[simp] theorem State.setPg_watches (n : LoadIx) (q : Qualifier) (s : State) : (s.setPg n q).watches = s.watches := rfl
@[simp] theorem State.setPg_store (n : LoadIx) (q : Qualifier) (s : State) : (s.setPg n q).store = s.store := rfl
@[simp] theorem State.setPg_link (n : LoadIx) (q : Qualifier) (s : State) : (s.setPg n q).link = s.link := rfl
@[simp] theorem State.setPg_session (n : LoadIx) (q : Qualifier) (s : State) : (s.setPg n q).session = s.session := rfl
@[simp] theorem State.setPg_prof (n : LoadIx) (q : Qualifier) (s : State) : (s.setPg n q).prof = s.prof := rfl
@[simp] theorem State.setPg_choices (n : LoadIx) (q : Qualifier) (s : State) : (s.setPg n q).choices = s.choices := rfl
@[simp] theorem State.startHold_pending (s : State) : (s.startHold).pending = s.pending := rfl
@[simp] theorem State.startHold_phase (s : State) : (s.startHold).phase = s.phase := rfl
@[simp] theorem State.startHold_timeBase (s : State) : (s.startHold).timeBase = s.timeBase := rfl
@[simp] theorem State.startHold_startup (s : State) : (s.startHold).startup = s.startup := rfl
@[simp] theorem State.startHold_ws (s : State) : (s.startHold).ws = s.ws := rfl
@[simp] theorem State.startHold_loads (s : State) : (s.startHold).loads = s.loads := rfl
@[simp] theorem State.startHold_seq (s : State) : (s.startHold).seq = s.seq := rfl
@[simp] theorem State.startHold_scan (s : State) : (s.startHold).scan = s.scan := rfl
@[simp] theorem State.startHold_watches (s : State) : (s.startHold).watches = s.watches := rfl
@[simp] theorem State.startHold_store (s : State) : (s.startHold).store = s.store := rfl
@[simp] theorem State.startHold_link (s : State) : (s.startHold).link = s.link := rfl
@[simp] theorem State.startHold_session (s : State) : (s.startHold).session = s.session := rfl
@[simp] theorem State.startHold_prof (s : State) : (s.startHold).prof = s.prof := rfl
@[simp] theorem State.startHold_quals (s : State) : (s.startHold).quals = s.quals := rfl
@[simp] theorem State.startHold_choices (s : State) : (s.startHold).choices = s.choices := rfl
@[simp] theorem State.takeReset_pending (p : Phase) (c : ResetCause) (s : State) : (s.takeReset p c).pending = s.pending := rfl
@[simp] theorem State.takeReset_ws (p : Phase) (c : ResetCause) (s : State) : (s.takeReset p c).ws = s.ws := rfl
@[simp] theorem State.takeReset_choices (p : Phase) (c : ResetCause) (s : State) : (s.takeReset p c).choices = s.choices := rfl

/-! ### The grant -/

@[simp] theorem State.grantHead_pending (e : QueueEntry) (rest : List QueueEntry) (s : State) : (s.grantHead e rest).pending = s.pending := rfl
@[simp] theorem State.grantHead_phase (e : QueueEntry) (rest : List QueueEntry) (s : State) : (s.grantHead e rest).phase = s.phase := rfl
@[simp] theorem State.grantHead_timeBase (e : QueueEntry) (rest : List QueueEntry) (s : State) : (s.grantHead e rest).timeBase = s.timeBase := rfl
@[simp] theorem State.grantHead_startup (e : QueueEntry) (rest : List QueueEntry) (s : State) : (s.grantHead e rest).startup = s.startup := rfl
@[simp] theorem State.grantHead_ws (e : QueueEntry) (rest : List QueueEntry) (s : State) : (s.grantHead e rest).ws = s.ws := rfl
@[simp] theorem State.grantHead_sev (e : QueueEntry) (rest : List QueueEntry) (s : State) : (s.grantHead e rest).sev = s.sev := rfl
@[simp] theorem State.grantHead_scan (e : QueueEntry) (rest : List QueueEntry) (s : State) : (s.grantHead e rest).scan = s.scan := rfl
@[simp] theorem State.grantHead_watches (e : QueueEntry) (rest : List QueueEntry) (s : State) : (s.grantHead e rest).watches = s.watches := rfl
@[simp] theorem State.grantHead_link (e : QueueEntry) (rest : List QueueEntry) (s : State) : (s.grantHead e rest).link = s.link := rfl
@[simp] theorem State.grantHead_session (e : QueueEntry) (rest : List QueueEntry) (s : State) : (s.grantHead e rest).session = s.session := rfl
@[simp] theorem State.grantHead_prof (e : QueueEntry) (rest : List QueueEntry) (s : State) : (s.grantHead e rest).prof = s.prof := rfl
@[simp] theorem State.grantHead_quals (e : QueueEntry) (rest : List QueueEntry) (s : State) : (s.grantHead e rest).quals = s.quals := rfl
@[simp] theorem State.grantHead_choices (e : QueueEntry) (rest : List QueueEntry) (s : State) : (s.grantHead e rest).choices = s.choices := rfl
@[simp] theorem State.considerGrant_pending (s : State) : (s.considerGrant).pending = s.pending := by
  unfold State.considerGrant; repeat' split
  all_goals simp
@[simp] theorem State.considerGrant_phase (s : State) : (s.considerGrant).phase = s.phase := by
  unfold State.considerGrant; repeat' split
  all_goals simp
@[simp] theorem State.considerGrant_timeBase (s : State) : (s.considerGrant).timeBase = s.timeBase := by
  unfold State.considerGrant; repeat' split
  all_goals simp
@[simp] theorem State.considerGrant_startup (s : State) : (s.considerGrant).startup = s.startup := by
  unfold State.considerGrant; repeat' split
  all_goals simp
@[simp] theorem State.considerGrant_ws (s : State) : (s.considerGrant).ws = s.ws := by
  unfold State.considerGrant; repeat' split
  all_goals simp
@[simp] theorem State.considerGrant_sev (s : State) : (s.considerGrant).sev = s.sev := by
  unfold State.considerGrant; repeat' split
  all_goals simp
@[simp] theorem State.considerGrant_scan (s : State) : (s.considerGrant).scan = s.scan := by
  unfold State.considerGrant; repeat' split
  all_goals simp
@[simp] theorem State.considerGrant_watches (s : State) : (s.considerGrant).watches = s.watches := by
  unfold State.considerGrant; repeat' split
  all_goals simp
@[simp] theorem State.considerGrant_link (s : State) : (s.considerGrant).link = s.link := by
  unfold State.considerGrant; repeat' split
  all_goals simp
@[simp] theorem State.considerGrant_session (s : State) : (s.considerGrant).session = s.session := by
  unfold State.considerGrant; repeat' split
  all_goals simp
@[simp] theorem State.considerGrant_prof (s : State) : (s.considerGrant).prof = s.prof := by
  unfold State.considerGrant; repeat' split
  all_goals simp
@[simp] theorem State.considerGrant_quals (s : State) : (s.considerGrant).quals = s.quals := by
  unfold State.considerGrant; repeat' split
  all_goals simp
@[simp] theorem State.considerGrant_choices (s : State) : (s.considerGrant).choices = s.choices := by
  unfold State.considerGrant; repeat' split
  all_goals simp

/-! ### Updates that depend on the state -/

@[simp] theorem State.elapse_pending (d : Nat) (s : State) : (s.elapse d).pending = s.pending := by
  unfold State.elapse; split <;> rfl
@[simp] theorem State.elapse_phase (d : Nat) (s : State) : (s.elapse d).phase = s.phase := by
  unfold State.elapse; split <;> rfl
@[simp] theorem State.elapse_ws (d : Nat) (s : State) : (s.elapse d).ws = s.ws := by
  unfold State.elapse; split <;> rfl
@[simp] theorem State.elapse_watches (d : Nat) (s : State) : (s.elapse d).watches = s.watches := by
  unfold State.elapse; split <;> rfl
@[simp] theorem State.elapse_store (d : Nat) (s : State) : (s.elapse d).store = s.store := by
  unfold State.elapse; split <;> rfl
@[simp] theorem State.elapse_choices (d : Nat) (s : State) : (s.elapse d).choices = s.choices := by
  unfold State.elapse; split <;> rfl
@[simp] theorem State.startReport_pending (s : State) : (s.startReport).pending = s.pending := by
  unfold State.startReport; split <;> rfl
@[simp] theorem State.startReport_phase (s : State) : (s.startReport).phase = s.phase := by
  unfold State.startReport; split <;> rfl
@[simp] theorem State.startReport_timeBase (s : State) : (s.startReport).timeBase = s.timeBase := by
  unfold State.startReport; split <;> rfl
@[simp] theorem State.startReport_startup (s : State) : (s.startReport).startup = s.startup := by
  unfold State.startReport; split <;> rfl
@[simp] theorem State.startReport_ws (s : State) : (s.startReport).ws = s.ws := by
  unfold State.startReport; split <;> rfl
@[simp] theorem State.startReport_loads (s : State) : (s.startReport).loads = s.loads := by
  unfold State.startReport; split <;> rfl
@[simp] theorem State.startReport_seq (s : State) : (s.startReport).seq = s.seq := by
  unfold State.startReport; split <;> rfl
@[simp] theorem State.startReport_sev (s : State) : (s.startReport).sev = s.sev := by
  unfold State.startReport; split <;> rfl
@[simp] theorem State.startReport_scan (s : State) : (s.startReport).scan = s.scan := by
  unfold State.startReport; split <;> rfl
@[simp] theorem State.startReport_watches (s : State) : (s.startReport).watches = s.watches := by
  unfold State.startReport; split <;> rfl
@[simp] theorem State.startReport_session (s : State) : (s.startReport).session = s.session := by
  unfold State.startReport; split <;> rfl
@[simp] theorem State.startReport_prof (s : State) : (s.startReport).prof = s.prof := by
  unfold State.startReport; split <;> rfl
@[simp] theorem State.startReport_quals (s : State) : (s.startReport).quals = s.quals := by
  unfold State.startReport; split <;> rfl
@[simp] theorem State.startReport_choices (s : State) : (s.startReport).choices = s.choices := by
  unfold State.startReport; split <;> rfl
@[simp] theorem State.kick_pending (s : State) : (s.kick).pending = s.pending := by
  unfold State.kick; repeat' split
  all_goals simp
@[simp] theorem State.kick_phase (s : State) : (s.kick).phase = s.phase := by
  unfold State.kick; repeat' split
  all_goals simp
@[simp] theorem State.kick_timeBase (s : State) : (s.kick).timeBase = s.timeBase := by
  unfold State.kick; repeat' split
  all_goals simp
@[simp] theorem State.kick_startup (s : State) : (s.kick).startup = s.startup := by
  unfold State.kick; repeat' split
  all_goals simp
@[simp] theorem State.kick_ws (s : State) : (s.kick).ws = s.ws := by
  unfold State.kick; repeat' split
  all_goals simp
@[simp] theorem State.kick_loads (s : State) : (s.kick).loads = s.loads := by
  unfold State.kick; repeat' split
  all_goals simp
@[simp] theorem State.kick_seq (s : State) : (s.kick).seq = s.seq := by
  unfold State.kick; repeat' split
  all_goals simp
@[simp] theorem State.kick_sev (s : State) : (s.kick).sev = s.sev := by
  unfold State.kick; repeat' split
  all_goals simp
@[simp] theorem State.kick_scan (s : State) : (s.kick).scan = s.scan := by
  unfold State.kick; repeat' split
  all_goals simp
@[simp] theorem State.kick_watches (s : State) : (s.kick).watches = s.watches := by
  unfold State.kick; repeat' split
  all_goals simp
@[simp] theorem State.kick_session (s : State) : (s.kick).session = s.session := by
  unfold State.kick; repeat' split
  all_goals simp
@[simp] theorem State.kick_prof (s : State) : (s.kick).prof = s.prof := by
  unfold State.kick; repeat' split
  all_goals simp
@[simp] theorem State.kick_quals (s : State) : (s.kick).quals = s.quals := by
  unfold State.kick; repeat' split
  all_goals simp
@[simp] theorem State.kick_choices (s : State) : (s.kick).choices = s.choices := by
  unfold State.kick; repeat' split
  all_goals simp
@[simp] theorem State.takeGrant_pending (s : State) : (s.takeGrant).pending = s.pending := by
  unfold State.takeGrant; split <;> simp
@[simp] theorem State.takeGrant_phase (s : State) : (s.takeGrant).phase = s.phase := by
  unfold State.takeGrant; split <;> simp
@[simp] theorem State.takeGrant_timeBase (s : State) : (s.takeGrant).timeBase = s.timeBase := by
  unfold State.takeGrant; split <;> simp
@[simp] theorem State.takeGrant_startup (s : State) : (s.takeGrant).startup = s.startup := by
  unfold State.takeGrant; split <;> simp
@[simp] theorem State.takeGrant_ws (s : State) : (s.takeGrant).ws = s.ws := by
  unfold State.takeGrant; split <;> simp
@[simp] theorem State.takeGrant_sev (s : State) : (s.takeGrant).sev = s.sev := by
  unfold State.takeGrant; split <;> simp
@[simp] theorem State.takeGrant_scan (s : State) : (s.takeGrant).scan = s.scan := by
  unfold State.takeGrant; split <;> simp
@[simp] theorem State.takeGrant_watches (s : State) : (s.takeGrant).watches = s.watches := by
  unfold State.takeGrant; split <;> simp
@[simp] theorem State.takeGrant_session (s : State) : (s.takeGrant).session = s.session := by
  unfold State.takeGrant; split <;> simp
@[simp] theorem State.takeGrant_prof (s : State) : (s.takeGrant).prof = s.prof := by
  unfold State.takeGrant; split <;> simp
@[simp] theorem State.takeGrant_quals (s : State) : (s.takeGrant).quals = s.quals := by
  unfold State.takeGrant; split <;> simp
@[simp] theorem State.takeGrant_choices (s : State) : (s.takeGrant).choices = s.choices := by
  unfold State.takeGrant; split <;> simp
@[simp] theorem State.offerBeforeReply_pending (s : State) : (s.offerBeforeReply).pending = s.pending := by
  unfold State.offerBeforeReply; repeat' split
  all_goals simp
@[simp] theorem State.offerBeforeReply_phase (s : State) : (s.offerBeforeReply).phase = s.phase := by
  unfold State.offerBeforeReply; repeat' split
  all_goals simp
@[simp] theorem State.offerBeforeReply_timeBase (s : State) : (s.offerBeforeReply).timeBase = s.timeBase := by
  unfold State.offerBeforeReply; repeat' split
  all_goals simp
@[simp] theorem State.offerBeforeReply_startup (s : State) : (s.offerBeforeReply).startup = s.startup := by
  unfold State.offerBeforeReply; repeat' split
  all_goals simp
@[simp] theorem State.offerBeforeReply_ws (s : State) : (s.offerBeforeReply).ws = s.ws := by
  unfold State.offerBeforeReply; repeat' split
  all_goals simp
@[simp] theorem State.offerBeforeReply_loads (s : State) : (s.offerBeforeReply).loads = s.loads := by
  unfold State.offerBeforeReply; repeat' split
  all_goals simp
@[simp] theorem State.offerBeforeReply_seq (s : State) : (s.offerBeforeReply).seq = s.seq := by
  unfold State.offerBeforeReply; repeat' split
  all_goals simp
@[simp] theorem State.offerBeforeReply_sev (s : State) : (s.offerBeforeReply).sev = s.sev := by
  unfold State.offerBeforeReply; repeat' split
  all_goals simp
@[simp] theorem State.offerBeforeReply_scan (s : State) : (s.offerBeforeReply).scan = s.scan := by
  unfold State.offerBeforeReply; repeat' split
  all_goals simp
@[simp] theorem State.offerBeforeReply_watches (s : State) : (s.offerBeforeReply).watches = s.watches := by
  unfold State.offerBeforeReply; repeat' split
  all_goals simp
@[simp] theorem State.offerBeforeReply_session (s : State) : (s.offerBeforeReply).session = s.session := by
  unfold State.offerBeforeReply; repeat' split
  all_goals simp
@[simp] theorem State.offerBeforeReply_prof (s : State) : (s.offerBeforeReply).prof = s.prof := by
  unfold State.offerBeforeReply; repeat' split
  all_goals simp
@[simp] theorem State.offerBeforeReply_quals (s : State) : (s.offerBeforeReply).quals = s.quals := by
  unfold State.offerBeforeReply; repeat' split
  all_goals simp
@[simp] theorem State.noticeGoodFrame_pending (k t : Byte) (s : State) : (s.noticeGoodFrame k t).pending = s.pending := by
  unfold State.noticeGoodFrame; repeat' split
  all_goals simp
@[simp] theorem State.noticeGoodFrame_phase (k t : Byte) (s : State) : (s.noticeGoodFrame k t).phase = s.phase := by
  unfold State.noticeGoodFrame; repeat' split
  all_goals simp
@[simp] theorem State.noticeGoodFrame_timeBase (k t : Byte) (s : State) : (s.noticeGoodFrame k t).timeBase = s.timeBase := by
  unfold State.noticeGoodFrame; repeat' split
  all_goals simp
@[simp] theorem State.noticeGoodFrame_startup (k t : Byte) (s : State) : (s.noticeGoodFrame k t).startup = s.startup := by
  unfold State.noticeGoodFrame; repeat' split
  all_goals simp
@[simp] theorem State.noticeGoodFrame_ws (k t : Byte) (s : State) : (s.noticeGoodFrame k t).ws = s.ws := by
  unfold State.noticeGoodFrame; repeat' split
  all_goals simp
@[simp] theorem State.noticeGoodFrame_loads (k t : Byte) (s : State) : (s.noticeGoodFrame k t).loads = s.loads := by
  unfold State.noticeGoodFrame; repeat' split
  all_goals simp
@[simp] theorem State.noticeGoodFrame_seq (k t : Byte) (s : State) : (s.noticeGoodFrame k t).seq = s.seq := by
  unfold State.noticeGoodFrame; repeat' split
  all_goals simp
@[simp] theorem State.noticeGoodFrame_sev (k t : Byte) (s : State) : (s.noticeGoodFrame k t).sev = s.sev := by
  unfold State.noticeGoodFrame; repeat' split
  all_goals simp
@[simp] theorem State.noticeGoodFrame_scan (k t : Byte) (s : State) : (s.noticeGoodFrame k t).scan = s.scan := by
  unfold State.noticeGoodFrame; repeat' split
  all_goals simp
@[simp] theorem State.noticeGoodFrame_watches (k t : Byte) (s : State) : (s.noticeGoodFrame k t).watches = s.watches := by
  unfold State.noticeGoodFrame; repeat' split
  all_goals simp
@[simp] theorem State.noticeGoodFrame_link (k t : Byte) (s : State) : (s.noticeGoodFrame k t).link = s.link := by
  unfold State.noticeGoodFrame; repeat' split
  all_goals simp
@[simp] theorem State.noticeGoodFrame_prof (k t : Byte) (s : State) : (s.noticeGoodFrame k t).prof = s.prof := by
  unfold State.noticeGoodFrame; repeat' split
  all_goals simp
@[simp] theorem State.noticeGoodFrame_quals (k t : Byte) (s : State) : (s.noticeGoodFrame k t).quals = s.quals := by
  unfold State.noticeGoodFrame; repeat' split
  all_goals simp
@[simp] theorem State.noticeGoodFrame_choices (k t : Byte) (s : State) : (s.noticeGoodFrame k t).choices = s.choices := by
  unfold State.noticeGoodFrame; repeat' split
  all_goals simp
@[simp] theorem State.queueInbound_pending (f : Frame) (s : State) : (s.queueInbound f).pending = s.pending := by
  unfold State.queueInbound; split <;> rfl
@[simp] theorem State.queueInbound_phase (f : Frame) (s : State) : (s.queueInbound f).phase = s.phase := by
  unfold State.queueInbound; split <;> rfl
@[simp] theorem State.queueInbound_timeBase (f : Frame) (s : State) : (s.queueInbound f).timeBase = s.timeBase := by
  unfold State.queueInbound; split <;> rfl
@[simp] theorem State.queueInbound_startup (f : Frame) (s : State) : (s.queueInbound f).startup = s.startup := by
  unfold State.queueInbound; split <;> rfl
@[simp] theorem State.queueInbound_ws (f : Frame) (s : State) : (s.queueInbound f).ws = s.ws := by
  unfold State.queueInbound; split <;> rfl
@[simp] theorem State.queueInbound_loads (f : Frame) (s : State) : (s.queueInbound f).loads = s.loads := by
  unfold State.queueInbound; split <;> rfl
@[simp] theorem State.queueInbound_seq (f : Frame) (s : State) : (s.queueInbound f).seq = s.seq := by
  unfold State.queueInbound; split <;> rfl
@[simp] theorem State.queueInbound_sev (f : Frame) (s : State) : (s.queueInbound f).sev = s.sev := by
  unfold State.queueInbound; split <;> rfl
@[simp] theorem State.queueInbound_scan (f : Frame) (s : State) : (s.queueInbound f).scan = s.scan := by
  unfold State.queueInbound; split <;> rfl
@[simp] theorem State.queueInbound_watches (f : Frame) (s : State) : (s.queueInbound f).watches = s.watches := by
  unfold State.queueInbound; split <;> rfl
@[simp] theorem State.queueInbound_store (f : Frame) (s : State) : (s.queueInbound f).store = s.store := by
  unfold State.queueInbound; split <;> rfl
@[simp] theorem State.queueInbound_session (f : Frame) (s : State) : (s.queueInbound f).session = s.session := by
  unfold State.queueInbound; split <;> rfl
@[simp] theorem State.queueInbound_prof (f : Frame) (s : State) : (s.queueInbound f).prof = s.prof := by
  unfold State.queueInbound; split <;> rfl
@[simp] theorem State.queueInbound_quals (f : Frame) (s : State) : (s.queueInbound f).quals = s.quals := by
  unfold State.queueInbound; split <;> rfl
@[simp] theorem State.queueInbound_choices (f : Frame) (s : State) : (s.queueInbound f).choices = s.choices := by
  unfold State.queueInbound; split <;> rfl
@[simp] theorem State.closeFrame_pending (f : Frame) (s : State) : (s.closeFrame f).pending = s.pending := by
  simp only [State.closeFrame]; split <;> simp
@[simp] theorem State.closeFrame_phase (f : Frame) (s : State) : (s.closeFrame f).phase = s.phase := by
  simp only [State.closeFrame]; split <;> simp
@[simp] theorem State.closeFrame_timeBase (f : Frame) (s : State) : (s.closeFrame f).timeBase = s.timeBase := by
  simp only [State.closeFrame]; split <;> simp
@[simp] theorem State.closeFrame_startup (f : Frame) (s : State) : (s.closeFrame f).startup = s.startup := by
  simp only [State.closeFrame]; split <;> simp
@[simp] theorem State.closeFrame_ws (f : Frame) (s : State) : (s.closeFrame f).ws = s.ws := by
  simp only [State.closeFrame]; split <;> simp
@[simp] theorem State.closeFrame_loads (f : Frame) (s : State) : (s.closeFrame f).loads = s.loads := by
  simp only [State.closeFrame]; split <;> simp
@[simp] theorem State.closeFrame_seq (f : Frame) (s : State) : (s.closeFrame f).seq = s.seq := by
  simp only [State.closeFrame]; split <;> simp
@[simp] theorem State.closeFrame_sev (f : Frame) (s : State) : (s.closeFrame f).sev = s.sev := by
  simp only [State.closeFrame]; split <;> simp
@[simp] theorem State.closeFrame_scan (f : Frame) (s : State) : (s.closeFrame f).scan = s.scan := by
  simp only [State.closeFrame]; split <;> simp
@[simp] theorem State.closeFrame_watches (f : Frame) (s : State) : (s.closeFrame f).watches = s.watches := by
  simp only [State.closeFrame]; split <;> simp
@[simp] theorem State.closeFrame_prof (f : Frame) (s : State) : (s.closeFrame f).prof = s.prof := by
  simp only [State.closeFrame]; split <;> simp
@[simp] theorem State.closeFrame_quals (f : Frame) (s : State) : (s.closeFrame f).quals = s.quals := by
  simp only [State.closeFrame]; split <;> simp
@[simp] theorem State.closeFrame_choices (f : Frame) (s : State) : (s.closeFrame f).choices = s.choices := by
  simp only [State.closeFrame]; split <;> simp
@[simp] theorem State.frameByte_pending (b : Byte) (s : State) : (s.frameByte b).pending = s.pending := by
  unfold State.frameByte; repeat' split
  all_goals simp
@[simp] theorem State.frameByte_phase (b : Byte) (s : State) : (s.frameByte b).phase = s.phase := by
  unfold State.frameByte; repeat' split
  all_goals simp
@[simp] theorem State.frameByte_timeBase (b : Byte) (s : State) : (s.frameByte b).timeBase = s.timeBase := by
  unfold State.frameByte; repeat' split
  all_goals simp
@[simp] theorem State.frameByte_startup (b : Byte) (s : State) : (s.frameByte b).startup = s.startup := by
  unfold State.frameByte; repeat' split
  all_goals simp
@[simp] theorem State.frameByte_ws (b : Byte) (s : State) : (s.frameByte b).ws = s.ws := by
  unfold State.frameByte; repeat' split
  all_goals simp
@[simp] theorem State.frameByte_loads (b : Byte) (s : State) : (s.frameByte b).loads = s.loads := by
  unfold State.frameByte; repeat' split
  all_goals simp
@[simp] theorem State.frameByte_seq (b : Byte) (s : State) : (s.frameByte b).seq = s.seq := by
  unfold State.frameByte; repeat' split
  all_goals simp
@[simp] theorem State.frameByte_sev (b : Byte) (s : State) : (s.frameByte b).sev = s.sev := by
  unfold State.frameByte; repeat' split
  all_goals simp
@[simp] theorem State.frameByte_scan (b : Byte) (s : State) : (s.frameByte b).scan = s.scan := by
  unfold State.frameByte; repeat' split
  all_goals simp
@[simp] theorem State.frameByte_watches (b : Byte) (s : State) : (s.frameByte b).watches = s.watches := by
  unfold State.frameByte; repeat' split
  all_goals simp
@[simp] theorem State.frameByte_prof (b : Byte) (s : State) : (s.frameByte b).prof = s.prof := by
  unfold State.frameByte; repeat' split
  all_goals simp
@[simp] theorem State.frameByte_quals (b : Byte) (s : State) : (s.frameByte b).quals = s.quals := by
  unfold State.frameByte; repeat' split
  all_goals simp
@[simp] theorem State.frameByte_choices (b : Byte) (s : State) : (s.frameByte b).choices = s.choices := by
  unfold State.frameByte; repeat' split
  all_goals simp
@[simp] theorem State.demandOff_pending (c : Cause) (n : LoadIx) (s : State) : (s.demandOff c n).pending = s.pending := by
  unfold State.demandOff; split <;> simp
@[simp] theorem State.demandOff_phase (c : Cause) (n : LoadIx) (s : State) : (s.demandOff c n).phase = s.phase := by
  unfold State.demandOff; split <;> simp
@[simp] theorem State.demandOff_timeBase (c : Cause) (n : LoadIx) (s : State) : (s.demandOff c n).timeBase = s.timeBase := by
  unfold State.demandOff; split <;> simp
@[simp] theorem State.demandOff_startup (c : Cause) (n : LoadIx) (s : State) : (s.demandOff c n).startup = s.startup := by
  unfold State.demandOff; split <;> simp
@[simp] theorem State.demandOff_ws (c : Cause) (n : LoadIx) (s : State) : (s.demandOff c n).ws = s.ws := by
  unfold State.demandOff; split <;> simp
@[simp] theorem State.demandOff_sev (c : Cause) (n : LoadIx) (s : State) : (s.demandOff c n).sev = s.sev := by
  unfold State.demandOff; split <;> simp
@[simp] theorem State.demandOff_scan (c : Cause) (n : LoadIx) (s : State) : (s.demandOff c n).scan = s.scan := by
  unfold State.demandOff; split <;> simp
@[simp] theorem State.demandOff_watches (c : Cause) (n : LoadIx) (s : State) : (s.demandOff c n).watches = s.watches := by
  unfold State.demandOff; split <;> simp
@[simp] theorem State.demandOff_link (c : Cause) (n : LoadIx) (s : State) : (s.demandOff c n).link = s.link := by
  unfold State.demandOff; split <;> simp
@[simp] theorem State.demandOff_session (c : Cause) (n : LoadIx) (s : State) : (s.demandOff c n).session = s.session := by
  unfold State.demandOff; split <;> simp
@[simp] theorem State.demandOff_prof (c : Cause) (n : LoadIx) (s : State) : (s.demandOff c n).prof = s.prof := by
  unfold State.demandOff; split <;> simp
@[simp] theorem State.demandOff_quals (c : Cause) (n : LoadIx) (s : State) : (s.demandOff c n).quals = s.quals := by
  unfold State.demandOff; split <;> simp
@[simp] theorem State.demandOff_choices (c : Cause) (n : LoadIx) (s : State) : (s.demandOff c n).choices = s.choices := by
  unfold State.demandOff; split <;> simp
@[simp] theorem State.demandOn_pending (c : Cause) (n : LoadIx) (s : State) : (s.demandOn c n).pending = s.pending := by
  unfold State.demandOn; repeat' split
  all_goals simp
@[simp] theorem State.demandOn_phase (c : Cause) (n : LoadIx) (s : State) : (s.demandOn c n).phase = s.phase := by
  unfold State.demandOn; repeat' split
  all_goals simp
@[simp] theorem State.demandOn_timeBase (c : Cause) (n : LoadIx) (s : State) : (s.demandOn c n).timeBase = s.timeBase := by
  unfold State.demandOn; repeat' split
  all_goals simp
@[simp] theorem State.demandOn_startup (c : Cause) (n : LoadIx) (s : State) : (s.demandOn c n).startup = s.startup := by
  unfold State.demandOn; repeat' split
  all_goals simp
@[simp] theorem State.demandOn_ws (c : Cause) (n : LoadIx) (s : State) : (s.demandOn c n).ws = s.ws := by
  unfold State.demandOn; repeat' split
  all_goals simp
@[simp] theorem State.demandOn_sev (c : Cause) (n : LoadIx) (s : State) : (s.demandOn c n).sev = s.sev := by
  unfold State.demandOn; repeat' split
  all_goals simp
@[simp] theorem State.demandOn_scan (c : Cause) (n : LoadIx) (s : State) : (s.demandOn c n).scan = s.scan := by
  unfold State.demandOn; repeat' split
  all_goals simp
@[simp] theorem State.demandOn_watches (c : Cause) (n : LoadIx) (s : State) : (s.demandOn c n).watches = s.watches := by
  unfold State.demandOn; repeat' split
  all_goals simp
@[simp] theorem State.demandOn_link (c : Cause) (n : LoadIx) (s : State) : (s.demandOn c n).link = s.link := by
  unfold State.demandOn; repeat' split
  all_goals simp
@[simp] theorem State.demandOn_session (c : Cause) (n : LoadIx) (s : State) : (s.demandOn c n).session = s.session := by
  unfold State.demandOn; repeat' split
  all_goals simp
@[simp] theorem State.demandOn_prof (c : Cause) (n : LoadIx) (s : State) : (s.demandOn c n).prof = s.prof := by
  unfold State.demandOn; repeat' split
  all_goals simp
@[simp] theorem State.demandOn_quals (c : Cause) (n : LoadIx) (s : State) : (s.demandOn c n).quals = s.quals := by
  unfold State.demandOn; repeat' split
  all_goals simp
@[simp] theorem State.demandOn_choices (c : Cause) (n : LoadIx) (s : State) : (s.demandOn c n).choices = s.choices := by
  unfold State.demandOn; repeat' split
  all_goals simp
@[simp] theorem State.shedLoad_pending (n : LoadIx) (s : State) : (s.shedLoad n).pending = s.pending := by
  unfold State.shedLoad; split <;> simp
@[simp] theorem State.shedLoad_phase (n : LoadIx) (s : State) : (s.shedLoad n).phase = s.phase := by
  unfold State.shedLoad; split <;> simp
@[simp] theorem State.shedLoad_timeBase (n : LoadIx) (s : State) : (s.shedLoad n).timeBase = s.timeBase := by
  unfold State.shedLoad; split <;> simp
@[simp] theorem State.shedLoad_startup (n : LoadIx) (s : State) : (s.shedLoad n).startup = s.startup := by
  unfold State.shedLoad; split <;> simp
@[simp] theorem State.shedLoad_ws (n : LoadIx) (s : State) : (s.shedLoad n).ws = s.ws := by
  unfold State.shedLoad; split <;> simp
@[simp] theorem State.shedLoad_sev (n : LoadIx) (s : State) : (s.shedLoad n).sev = s.sev := by
  unfold State.shedLoad; split <;> simp
@[simp] theorem State.shedLoad_scan (n : LoadIx) (s : State) : (s.shedLoad n).scan = s.scan := by
  unfold State.shedLoad; split <;> simp
@[simp] theorem State.shedLoad_watches (n : LoadIx) (s : State) : (s.shedLoad n).watches = s.watches := by
  unfold State.shedLoad; split <;> simp
@[simp] theorem State.shedLoad_link (n : LoadIx) (s : State) : (s.shedLoad n).link = s.link := by
  unfold State.shedLoad; split <;> simp
@[simp] theorem State.shedLoad_session (n : LoadIx) (s : State) : (s.shedLoad n).session = s.session := by
  unfold State.shedLoad; split <;> simp
@[simp] theorem State.shedLoad_prof (n : LoadIx) (s : State) : (s.shedLoad n).prof = s.prof := by
  unfold State.shedLoad; split <;> simp
@[simp] theorem State.shedLoad_quals (n : LoadIx) (s : State) : (s.shedLoad n).quals = s.quals := by
  unfold State.shedLoad; split <;> simp
@[simp] theorem State.shedLoad_choices (n : LoadIx) (s : State) : (s.shedLoad n).choices = s.choices := by
  unfold State.shedLoad; split <;> simp
@[simp] theorem State.restoreLoad_pending (n : LoadIx) (s : State) : (s.restoreLoad n).pending = s.pending := by
  unfold State.restoreLoad; split <;> simp
@[simp] theorem State.restoreLoad_phase (n : LoadIx) (s : State) : (s.restoreLoad n).phase = s.phase := by
  unfold State.restoreLoad; split <;> simp
@[simp] theorem State.restoreLoad_timeBase (n : LoadIx) (s : State) : (s.restoreLoad n).timeBase = s.timeBase := by
  unfold State.restoreLoad; split <;> simp
@[simp] theorem State.restoreLoad_startup (n : LoadIx) (s : State) : (s.restoreLoad n).startup = s.startup := by
  unfold State.restoreLoad; split <;> simp
@[simp] theorem State.restoreLoad_ws (n : LoadIx) (s : State) : (s.restoreLoad n).ws = s.ws := by
  unfold State.restoreLoad; split <;> simp
@[simp] theorem State.restoreLoad_sev (n : LoadIx) (s : State) : (s.restoreLoad n).sev = s.sev := by
  unfold State.restoreLoad; split <;> simp
@[simp] theorem State.restoreLoad_scan (n : LoadIx) (s : State) : (s.restoreLoad n).scan = s.scan := by
  unfold State.restoreLoad; split <;> simp
@[simp] theorem State.restoreLoad_watches (n : LoadIx) (s : State) : (s.restoreLoad n).watches = s.watches := by
  unfold State.restoreLoad; split <;> simp
@[simp] theorem State.restoreLoad_link (n : LoadIx) (s : State) : (s.restoreLoad n).link = s.link := by
  unfold State.restoreLoad; split <;> simp
@[simp] theorem State.restoreLoad_session (n : LoadIx) (s : State) : (s.restoreLoad n).session = s.session := by
  unfold State.restoreLoad; split <;> simp
@[simp] theorem State.restoreLoad_prof (n : LoadIx) (s : State) : (s.restoreLoad n).prof = s.prof := by
  unfold State.restoreLoad; split <;> simp
@[simp] theorem State.restoreLoad_quals (n : LoadIx) (s : State) : (s.restoreLoad n).quals = s.quals := by
  unfold State.restoreLoad; split <;> simp
@[simp] theorem State.restoreLoad_choices (n : LoadIx) (s : State) : (s.restoreLoad n).choices = s.choices := by
  unfold State.restoreLoad; split <;> simp
@[simp] theorem State.trip_pending (c : TripCause) (n : LoadIx) (s : State) : (s.trip c n).pending = s.pending := rfl
@[simp] theorem State.trip_phase (c : TripCause) (n : LoadIx) (s : State) : (s.trip c n).phase = s.phase := rfl
@[simp] theorem State.trip_timeBase (c : TripCause) (n : LoadIx) (s : State) : (s.trip c n).timeBase = s.timeBase := rfl
@[simp] theorem State.trip_startup (c : TripCause) (n : LoadIx) (s : State) : (s.trip c n).startup = s.startup := rfl
@[simp] theorem State.trip_ws (c : TripCause) (n : LoadIx) (s : State) : (s.trip c n).ws = s.ws := rfl
@[simp] theorem State.trip_sev (c : TripCause) (n : LoadIx) (s : State) : (s.trip c n).sev = s.sev := rfl
@[simp] theorem State.trip_scan (c : TripCause) (n : LoadIx) (s : State) : (s.trip c n).scan = s.scan := rfl
@[simp] theorem State.trip_watches (c : TripCause) (n : LoadIx) (s : State) : (s.trip c n).watches = s.watches := rfl
@[simp] theorem State.trip_link (c : TripCause) (n : LoadIx) (s : State) : (s.trip c n).link = s.link := rfl
@[simp] theorem State.trip_session (c : TripCause) (n : LoadIx) (s : State) : (s.trip c n).session = s.session := rfl
@[simp] theorem State.trip_prof (c : TripCause) (n : LoadIx) (s : State) : (s.trip c n).prof = s.prof := rfl
@[simp] theorem State.trip_quals (c : TripCause) (n : LoadIx) (s : State) : (s.trip c n).quals = s.quals := rfl
@[simp] theorem State.trip_choices (c : TripCause) (n : LoadIx) (s : State) : (s.trip c n).choices = s.choices := rfl
@[simp] theorem State.orphanAction_pending (n : LoadIx) (s : State) : (s.orphanAction n).pending = s.pending := by
  unfold State.orphanAction; repeat' split
  all_goals simp
@[simp] theorem State.orphanAction_phase (n : LoadIx) (s : State) : (s.orphanAction n).phase = s.phase := by
  unfold State.orphanAction; repeat' split
  all_goals simp
@[simp] theorem State.orphanAction_timeBase (n : LoadIx) (s : State) : (s.orphanAction n).timeBase = s.timeBase := by
  unfold State.orphanAction; repeat' split
  all_goals simp
@[simp] theorem State.orphanAction_startup (n : LoadIx) (s : State) : (s.orphanAction n).startup = s.startup := by
  unfold State.orphanAction; repeat' split
  all_goals simp
@[simp] theorem State.orphanAction_ws (n : LoadIx) (s : State) : (s.orphanAction n).ws = s.ws := by
  unfold State.orphanAction; repeat' split
  all_goals simp
@[simp] theorem State.orphanAction_sev (n : LoadIx) (s : State) : (s.orphanAction n).sev = s.sev := by
  unfold State.orphanAction; repeat' split
  all_goals simp
@[simp] theorem State.orphanAction_scan (n : LoadIx) (s : State) : (s.orphanAction n).scan = s.scan := by
  unfold State.orphanAction; repeat' split
  all_goals simp
@[simp] theorem State.orphanAction_watches (n : LoadIx) (s : State) : (s.orphanAction n).watches = s.watches := by
  unfold State.orphanAction; repeat' split
  all_goals simp
@[simp] theorem State.orphanAction_link (n : LoadIx) (s : State) : (s.orphanAction n).link = s.link := by
  unfold State.orphanAction; repeat' split
  all_goals simp
@[simp] theorem State.orphanAction_session (n : LoadIx) (s : State) : (s.orphanAction n).session = s.session := by
  unfold State.orphanAction; repeat' split
  all_goals simp
@[simp] theorem State.orphanAction_prof (n : LoadIx) (s : State) : (s.orphanAction n).prof = s.prof := by
  unfold State.orphanAction; repeat' split
  all_goals simp
@[simp] theorem State.orphanAction_quals (n : LoadIx) (s : State) : (s.orphanAction n).quals = s.quals := by
  unfold State.orphanAction; repeat' split
  all_goals simp
@[simp] theorem State.orphanAction_choices (n : LoadIx) (s : State) : (s.orphanAction n).choices = s.choices := by
  unfold State.orphanAction; repeat' split
  all_goals simp
@[simp] theorem State.autostartLoad_pending (n : LoadIx) (s : State) : (s.autostartLoad n).pending = s.pending := by
  unfold State.autostartLoad; split <;> simp
@[simp] theorem State.autostartLoad_phase (n : LoadIx) (s : State) : (s.autostartLoad n).phase = s.phase := by
  unfold State.autostartLoad; split <;> simp
@[simp] theorem State.autostartLoad_timeBase (n : LoadIx) (s : State) : (s.autostartLoad n).timeBase = s.timeBase := by
  unfold State.autostartLoad; split <;> simp
@[simp] theorem State.autostartLoad_startup (n : LoadIx) (s : State) : (s.autostartLoad n).startup = s.startup := by
  unfold State.autostartLoad; split <;> simp
@[simp] theorem State.autostartLoad_ws (n : LoadIx) (s : State) : (s.autostartLoad n).ws = s.ws := by
  unfold State.autostartLoad; split <;> simp
@[simp] theorem State.autostartLoad_sev (n : LoadIx) (s : State) : (s.autostartLoad n).sev = s.sev := by
  unfold State.autostartLoad; split <;> simp
@[simp] theorem State.autostartLoad_scan (n : LoadIx) (s : State) : (s.autostartLoad n).scan = s.scan := by
  unfold State.autostartLoad; split <;> simp
@[simp] theorem State.autostartLoad_watches (n : LoadIx) (s : State) : (s.autostartLoad n).watches = s.watches := by
  unfold State.autostartLoad; split <;> simp
@[simp] theorem State.autostartLoad_link (n : LoadIx) (s : State) : (s.autostartLoad n).link = s.link := by
  unfold State.autostartLoad; split <;> simp
@[simp] theorem State.autostartLoad_session (n : LoadIx) (s : State) : (s.autostartLoad n).session = s.session := by
  unfold State.autostartLoad; split <;> simp
@[simp] theorem State.autostartLoad_prof (n : LoadIx) (s : State) : (s.autostartLoad n).prof = s.prof := by
  unfold State.autostartLoad; split <;> simp
@[simp] theorem State.autostartLoad_quals (n : LoadIx) (s : State) : (s.autostartLoad n).quals = s.quals := by
  unfold State.autostartLoad; split <;> simp
@[simp] theorem State.autostartLoad_choices (n : LoadIx) (s : State) : (s.autostartLoad n).choices = s.choices := by
  unfold State.autostartLoad; split <;> simp
@[simp] theorem State.clearLoad_pending (n : LoadIx) (s : State) : (s.clearLoad n).pending = s.pending := rfl
@[simp] theorem State.clearLoad_phase (n : LoadIx) (s : State) : (s.clearLoad n).phase = s.phase := rfl
@[simp] theorem State.clearLoad_timeBase (n : LoadIx) (s : State) : (s.clearLoad n).timeBase = s.timeBase := rfl
@[simp] theorem State.clearLoad_startup (n : LoadIx) (s : State) : (s.clearLoad n).startup = s.startup := rfl
@[simp] theorem State.clearLoad_ws (n : LoadIx) (s : State) : (s.clearLoad n).ws = s.ws := rfl
@[simp] theorem State.clearLoad_sev (n : LoadIx) (s : State) : (s.clearLoad n).sev = s.sev := rfl
@[simp] theorem State.clearLoad_scan (n : LoadIx) (s : State) : (s.clearLoad n).scan = s.scan := rfl
@[simp] theorem State.clearLoad_watches (n : LoadIx) (s : State) : (s.clearLoad n).watches = s.watches := rfl
@[simp] theorem State.clearLoad_link (n : LoadIx) (s : State) : (s.clearLoad n).link = s.link := rfl
@[simp] theorem State.clearLoad_session (n : LoadIx) (s : State) : (s.clearLoad n).session = s.session := rfl
@[simp] theorem State.clearLoad_prof (n : LoadIx) (s : State) : (s.clearLoad n).prof = s.prof := rfl
@[simp] theorem State.clearLoad_quals (n : LoadIx) (s : State) : (s.clearLoad n).quals = s.quals := rfl
@[simp] theorem State.clearLoad_choices (n : LoadIx) (s : State) : (s.clearLoad n).choices = s.choices := rfl
@[simp] theorem State.judgeCurrent_pending (n : LoadIx) (l : Nat) (c : TripCause) (r : Int) (s : State) : (s.judgeCurrent n l c r).pending = s.pending := by
  simp only [State.judgeCurrent]; repeat' split
  all_goals simp
@[simp] theorem State.judgeCurrent_phase (n : LoadIx) (l : Nat) (c : TripCause) (r : Int) (s : State) : (s.judgeCurrent n l c r).phase = s.phase := by
  simp only [State.judgeCurrent]; repeat' split
  all_goals simp
@[simp] theorem State.judgeCurrent_timeBase (n : LoadIx) (l : Nat) (c : TripCause) (r : Int) (s : State) : (s.judgeCurrent n l c r).timeBase = s.timeBase := by
  simp only [State.judgeCurrent]; repeat' split
  all_goals simp
@[simp] theorem State.judgeCurrent_startup (n : LoadIx) (l : Nat) (c : TripCause) (r : Int) (s : State) : (s.judgeCurrent n l c r).startup = s.startup := by
  simp only [State.judgeCurrent]; repeat' split
  all_goals simp
@[simp] theorem State.judgeCurrent_ws (n : LoadIx) (l : Nat) (c : TripCause) (r : Int) (s : State) : (s.judgeCurrent n l c r).ws = s.ws := by
  simp only [State.judgeCurrent]; repeat' split
  all_goals simp
@[simp] theorem State.judgeCurrent_sev (n : LoadIx) (l : Nat) (c : TripCause) (r : Int) (s : State) : (s.judgeCurrent n l c r).sev = s.sev := by
  simp only [State.judgeCurrent]; repeat' split
  all_goals simp
@[simp] theorem State.judgeCurrent_scan (n : LoadIx) (l : Nat) (c : TripCause) (r : Int) (s : State) : (s.judgeCurrent n l c r).scan = s.scan := by
  simp only [State.judgeCurrent]; repeat' split
  all_goals simp
@[simp] theorem State.judgeCurrent_watches (n : LoadIx) (l : Nat) (c : TripCause) (r : Int) (s : State) : (s.judgeCurrent n l c r).watches = s.watches := by
  simp only [State.judgeCurrent]; repeat' split
  all_goals simp
@[simp] theorem State.judgeCurrent_link (n : LoadIx) (l : Nat) (c : TripCause) (r : Int) (s : State) : (s.judgeCurrent n l c r).link = s.link := by
  simp only [State.judgeCurrent]; repeat' split
  all_goals simp
@[simp] theorem State.judgeCurrent_session (n : LoadIx) (l : Nat) (c : TripCause) (r : Int) (s : State) : (s.judgeCurrent n l c r).session = s.session := by
  simp only [State.judgeCurrent]; repeat' split
  all_goals simp
@[simp] theorem State.judgeCurrent_prof (n : LoadIx) (l : Nat) (c : TripCause) (r : Int) (s : State) : (s.judgeCurrent n l c r).prof = s.prof := by
  simp only [State.judgeCurrent]; repeat' split
  all_goals simp
@[simp] theorem State.judgeCurrent_quals (n : LoadIx) (l : Nat) (c : TripCause) (r : Int) (s : State) : (s.judgeCurrent n l c r).quals = s.quals := by
  simp only [State.judgeCurrent]; repeat' split
  all_goals simp
@[simp] theorem State.judgeCurrent_choices (n : LoadIx) (l : Nat) (c : TripCause) (r : Int) (s : State) : (s.judgeCurrent n l c r).choices = s.choices := by
  simp only [State.judgeCurrent]; repeat' split
  all_goals simp
@[simp] theorem State.countSenseFault_pending (n : LoadIx) (s : State) : (s.countSenseFault n).pending = s.pending := by
  simp only [State.countSenseFault]; split <;> simp
@[simp] theorem State.countSenseFault_phase (n : LoadIx) (s : State) : (s.countSenseFault n).phase = s.phase := by
  simp only [State.countSenseFault]; split <;> simp
@[simp] theorem State.countSenseFault_timeBase (n : LoadIx) (s : State) : (s.countSenseFault n).timeBase = s.timeBase := by
  simp only [State.countSenseFault]; split <;> simp
@[simp] theorem State.countSenseFault_startup (n : LoadIx) (s : State) : (s.countSenseFault n).startup = s.startup := by
  simp only [State.countSenseFault]; split <;> simp
@[simp] theorem State.countSenseFault_ws (n : LoadIx) (s : State) : (s.countSenseFault n).ws = s.ws := by
  simp only [State.countSenseFault]; split <;> simp
@[simp] theorem State.countSenseFault_sev (n : LoadIx) (s : State) : (s.countSenseFault n).sev = s.sev := by
  simp only [State.countSenseFault]; split <;> simp
@[simp] theorem State.countSenseFault_scan (n : LoadIx) (s : State) : (s.countSenseFault n).scan = s.scan := by
  simp only [State.countSenseFault]; split <;> simp
@[simp] theorem State.countSenseFault_watches (n : LoadIx) (s : State) : (s.countSenseFault n).watches = s.watches := by
  simp only [State.countSenseFault]; split <;> simp
@[simp] theorem State.countSenseFault_link (n : LoadIx) (s : State) : (s.countSenseFault n).link = s.link := by
  simp only [State.countSenseFault]; split <;> simp
@[simp] theorem State.countSenseFault_session (n : LoadIx) (s : State) : (s.countSenseFault n).session = s.session := by
  simp only [State.countSenseFault]; split <;> simp
@[simp] theorem State.countSenseFault_prof (n : LoadIx) (s : State) : (s.countSenseFault n).prof = s.prof := by
  simp only [State.countSenseFault]; split <;> simp
@[simp] theorem State.countSenseFault_quals (n : LoadIx) (s : State) : (s.countSenseFault n).quals = s.quals := by
  simp only [State.countSenseFault]; split <;> simp
@[simp] theorem State.countSenseFault_choices (n : LoadIx) (s : State) : (s.countSenseFault n).choices = s.choices := by
  simp only [State.countSenseFault]; split <;> simp
@[simp] theorem State.loadTakes_pending (n : LoadIx) (r : Reading) (s : State) : (s.loadTakes n r).pending = s.pending := by
  unfold State.loadTakes; split <;> simp
@[simp] theorem State.loadTakes_phase (n : LoadIx) (r : Reading) (s : State) : (s.loadTakes n r).phase = s.phase := by
  unfold State.loadTakes; split <;> simp
@[simp] theorem State.loadTakes_timeBase (n : LoadIx) (r : Reading) (s : State) : (s.loadTakes n r).timeBase = s.timeBase := by
  unfold State.loadTakes; split <;> simp
@[simp] theorem State.loadTakes_startup (n : LoadIx) (r : Reading) (s : State) : (s.loadTakes n r).startup = s.startup := by
  unfold State.loadTakes; split <;> simp
@[simp] theorem State.loadTakes_ws (n : LoadIx) (r : Reading) (s : State) : (s.loadTakes n r).ws = s.ws := by
  unfold State.loadTakes; split <;> simp
@[simp] theorem State.loadTakes_sev (n : LoadIx) (r : Reading) (s : State) : (s.loadTakes n r).sev = s.sev := by
  unfold State.loadTakes; split <;> simp
@[simp] theorem State.loadTakes_scan (n : LoadIx) (r : Reading) (s : State) : (s.loadTakes n r).scan = s.scan := by
  unfold State.loadTakes; split <;> simp
@[simp] theorem State.loadTakes_watches (n : LoadIx) (r : Reading) (s : State) : (s.loadTakes n r).watches = s.watches := by
  unfold State.loadTakes; split <;> simp
@[simp] theorem State.loadTakes_link (n : LoadIx) (r : Reading) (s : State) : (s.loadTakes n r).link = s.link := by
  unfold State.loadTakes; split <;> simp
@[simp] theorem State.loadTakes_session (n : LoadIx) (r : Reading) (s : State) : (s.loadTakes n r).session = s.session := by
  unfold State.loadTakes; split <;> simp
@[simp] theorem State.loadTakes_prof (n : LoadIx) (r : Reading) (s : State) : (s.loadTakes n r).prof = s.prof := by
  unfold State.loadTakes; split <;> simp
@[simp] theorem State.loadTakes_quals (n : LoadIx) (r : Reading) (s : State) : (s.loadTakes n r).quals = s.quals := by
  unfold State.loadTakes; split <;> simp
@[simp] theorem State.loadTakes_choices (n : LoadIx) (r : Reading) (s : State) : (s.loadTakes n r).choices = s.choices := by
  unfold State.loadTakes; split <;> simp
@[simp] theorem State.settleExpires_pending (n : LoadIx) (s : State) : (s.settleExpires n).pending = s.pending := by
  unfold State.settleExpires; split <;> simp
@[simp] theorem State.settleExpires_phase (n : LoadIx) (s : State) : (s.settleExpires n).phase = s.phase := by
  unfold State.settleExpires; split <;> simp
@[simp] theorem State.settleExpires_timeBase (n : LoadIx) (s : State) : (s.settleExpires n).timeBase = s.timeBase := by
  unfold State.settleExpires; split <;> simp
@[simp] theorem State.settleExpires_startup (n : LoadIx) (s : State) : (s.settleExpires n).startup = s.startup := by
  unfold State.settleExpires; split <;> simp
@[simp] theorem State.settleExpires_ws (n : LoadIx) (s : State) : (s.settleExpires n).ws = s.ws := by
  unfold State.settleExpires; split <;> simp
@[simp] theorem State.settleExpires_sev (n : LoadIx) (s : State) : (s.settleExpires n).sev = s.sev := by
  unfold State.settleExpires; split <;> simp
@[simp] theorem State.settleExpires_scan (n : LoadIx) (s : State) : (s.settleExpires n).scan = s.scan := by
  unfold State.settleExpires; split <;> simp
@[simp] theorem State.settleExpires_watches (n : LoadIx) (s : State) : (s.settleExpires n).watches = s.watches := by
  unfold State.settleExpires; split <;> simp
@[simp] theorem State.settleExpires_link (n : LoadIx) (s : State) : (s.settleExpires n).link = s.link := by
  unfold State.settleExpires; split <;> simp
@[simp] theorem State.settleExpires_session (n : LoadIx) (s : State) : (s.settleExpires n).session = s.session := by
  unfold State.settleExpires; split <;> simp
@[simp] theorem State.settleExpires_prof (n : LoadIx) (s : State) : (s.settleExpires n).prof = s.prof := by
  unfold State.settleExpires; split <;> simp
@[simp] theorem State.settleExpires_quals (n : LoadIx) (s : State) : (s.settleExpires n).quals = s.quals := by
  unfold State.settleExpires; split <;> simp
@[simp] theorem State.settleExpires_choices (n : LoadIx) (s : State) : (s.settleExpires n).choices = s.choices := by
  unfold State.settleExpires; split <;> simp
@[simp] theorem State.cleanRunExpires_pending (n : LoadIx) (s : State) : (s.cleanRunExpires n).pending = s.pending := rfl
@[simp] theorem State.cleanRunExpires_phase (n : LoadIx) (s : State) : (s.cleanRunExpires n).phase = s.phase := rfl
@[simp] theorem State.cleanRunExpires_timeBase (n : LoadIx) (s : State) : (s.cleanRunExpires n).timeBase = s.timeBase := rfl
@[simp] theorem State.cleanRunExpires_startup (n : LoadIx) (s : State) : (s.cleanRunExpires n).startup = s.startup := rfl
@[simp] theorem State.cleanRunExpires_ws (n : LoadIx) (s : State) : (s.cleanRunExpires n).ws = s.ws := rfl
@[simp] theorem State.cleanRunExpires_seq (n : LoadIx) (s : State) : (s.cleanRunExpires n).seq = s.seq := rfl
@[simp] theorem State.cleanRunExpires_sev (n : LoadIx) (s : State) : (s.cleanRunExpires n).sev = s.sev := rfl
@[simp] theorem State.cleanRunExpires_scan (n : LoadIx) (s : State) : (s.cleanRunExpires n).scan = s.scan := rfl
@[simp] theorem State.cleanRunExpires_watches (n : LoadIx) (s : State) : (s.cleanRunExpires n).watches = s.watches := rfl
@[simp] theorem State.cleanRunExpires_store (n : LoadIx) (s : State) : (s.cleanRunExpires n).store = s.store := rfl
@[simp] theorem State.cleanRunExpires_link (n : LoadIx) (s : State) : (s.cleanRunExpires n).link = s.link := rfl
@[simp] theorem State.cleanRunExpires_session (n : LoadIx) (s : State) : (s.cleanRunExpires n).session = s.session := rfl
@[simp] theorem State.cleanRunExpires_prof (n : LoadIx) (s : State) : (s.cleanRunExpires n).prof = s.prof := rfl
@[simp] theorem State.cleanRunExpires_quals (n : LoadIx) (s : State) : (s.cleanRunExpires n).quals = s.quals := rfl
@[simp] theorem State.cleanRunExpires_choices (n : LoadIx) (s : State) : (s.cleanRunExpires n).choices = s.choices := rfl
@[simp] theorem State.backoffExpires_pending (n : LoadIx) (s : State) : (s.backoffExpires n).pending = s.pending := by
  unfold State.backoffExpires; simp
@[simp] theorem State.backoffExpires_phase (n : LoadIx) (s : State) : (s.backoffExpires n).phase = s.phase := by
  unfold State.backoffExpires; simp
@[simp] theorem State.backoffExpires_timeBase (n : LoadIx) (s : State) : (s.backoffExpires n).timeBase = s.timeBase := by
  unfold State.backoffExpires; simp
@[simp] theorem State.backoffExpires_startup (n : LoadIx) (s : State) : (s.backoffExpires n).startup = s.startup := by
  unfold State.backoffExpires; simp
@[simp] theorem State.backoffExpires_ws (n : LoadIx) (s : State) : (s.backoffExpires n).ws = s.ws := by
  unfold State.backoffExpires; simp
@[simp] theorem State.backoffExpires_sev (n : LoadIx) (s : State) : (s.backoffExpires n).sev = s.sev := by
  unfold State.backoffExpires; simp
@[simp] theorem State.backoffExpires_scan (n : LoadIx) (s : State) : (s.backoffExpires n).scan = s.scan := by
  unfold State.backoffExpires; simp
@[simp] theorem State.backoffExpires_watches (n : LoadIx) (s : State) : (s.backoffExpires n).watches = s.watches := by
  unfold State.backoffExpires; simp
@[simp] theorem State.backoffExpires_link (n : LoadIx) (s : State) : (s.backoffExpires n).link = s.link := by
  unfold State.backoffExpires; simp
@[simp] theorem State.backoffExpires_session (n : LoadIx) (s : State) : (s.backoffExpires n).session = s.session := by
  unfold State.backoffExpires; simp
@[simp] theorem State.backoffExpires_prof (n : LoadIx) (s : State) : (s.backoffExpires n).prof = s.prof := by
  unfold State.backoffExpires; simp
@[simp] theorem State.backoffExpires_quals (n : LoadIx) (s : State) : (s.backoffExpires n).quals = s.quals := by
  unfold State.backoffExpires; simp
@[simp] theorem State.backoffExpires_choices (n : LoadIx) (s : State) : (s.backoffExpires n).choices = s.choices := by
  unfold State.backoffExpires; simp

/-! ### An operation on several loads keeps what each of its steps keeps -/

theorem State.eachLoad_keeps {α : Type} (f : State → α) (op : LoadIx → State → State)
    (h : ∀ n t, f (op n t) = f t) (ns : List LoadIx) (s : State) : f (s.eachLoad ns op) = f s := by
  induction ns generalizing s with
  | nil => rfl
  | cons n ns ih => exact (ih (op n s)).trans (h n s)

@[simp] theorem State.eachLoad_demandOff_pending (c : Cause) (ns : List LoadIx) (s : State) :
    (s.eachLoad ns (State.demandOff c)).pending = s.pending :=
  s.eachLoad_keeps (·.pending) _ (fun n t => State.demandOff_pending c n t) ns
@[simp] theorem State.eachLoad_demandOff_phase (c : Cause) (ns : List LoadIx) (s : State) :
    (s.eachLoad ns (State.demandOff c)).phase = s.phase :=
  s.eachLoad_keeps (·.phase) _ (fun n t => State.demandOff_phase c n t) ns
@[simp] theorem State.eachLoad_demandOff_timeBase (c : Cause) (ns : List LoadIx) (s : State) :
    (s.eachLoad ns (State.demandOff c)).timeBase = s.timeBase :=
  s.eachLoad_keeps (·.timeBase) _ (fun n t => State.demandOff_timeBase c n t) ns
@[simp] theorem State.eachLoad_demandOff_startup (c : Cause) (ns : List LoadIx) (s : State) :
    (s.eachLoad ns (State.demandOff c)).startup = s.startup :=
  s.eachLoad_keeps (·.startup) _ (fun n t => State.demandOff_startup c n t) ns
@[simp] theorem State.eachLoad_demandOff_ws (c : Cause) (ns : List LoadIx) (s : State) :
    (s.eachLoad ns (State.demandOff c)).ws = s.ws :=
  s.eachLoad_keeps (·.ws) _ (fun n t => State.demandOff_ws c n t) ns
@[simp] theorem State.eachLoad_demandOff_sev (c : Cause) (ns : List LoadIx) (s : State) :
    (s.eachLoad ns (State.demandOff c)).sev = s.sev :=
  s.eachLoad_keeps (·.sev) _ (fun n t => State.demandOff_sev c n t) ns
@[simp] theorem State.eachLoad_demandOff_scan (c : Cause) (ns : List LoadIx) (s : State) :
    (s.eachLoad ns (State.demandOff c)).scan = s.scan :=
  s.eachLoad_keeps (·.scan) _ (fun n t => State.demandOff_scan c n t) ns
@[simp] theorem State.eachLoad_demandOff_watches (c : Cause) (ns : List LoadIx) (s : State) :
    (s.eachLoad ns (State.demandOff c)).watches = s.watches :=
  s.eachLoad_keeps (·.watches) _ (fun n t => State.demandOff_watches c n t) ns
@[simp] theorem State.eachLoad_demandOff_link (c : Cause) (ns : List LoadIx) (s : State) :
    (s.eachLoad ns (State.demandOff c)).link = s.link :=
  s.eachLoad_keeps (·.link) _ (fun n t => State.demandOff_link c n t) ns
@[simp] theorem State.eachLoad_demandOff_session (c : Cause) (ns : List LoadIx) (s : State) :
    (s.eachLoad ns (State.demandOff c)).session = s.session :=
  s.eachLoad_keeps (·.session) _ (fun n t => State.demandOff_session c n t) ns
@[simp] theorem State.eachLoad_demandOff_prof (c : Cause) (ns : List LoadIx) (s : State) :
    (s.eachLoad ns (State.demandOff c)).prof = s.prof :=
  s.eachLoad_keeps (·.prof) _ (fun n t => State.demandOff_prof c n t) ns
@[simp] theorem State.eachLoad_demandOff_quals (c : Cause) (ns : List LoadIx) (s : State) :
    (s.eachLoad ns (State.demandOff c)).quals = s.quals :=
  s.eachLoad_keeps (·.quals) _ (fun n t => State.demandOff_quals c n t) ns
@[simp] theorem State.eachLoad_demandOff_choices (c : Cause) (ns : List LoadIx) (s : State) :
    (s.eachLoad ns (State.demandOff c)).choices = s.choices :=
  s.eachLoad_keeps (·.choices) _ (fun n t => State.demandOff_choices c n t) ns
@[simp] theorem State.eachLoad_demandOn_pending (c : Cause) (ns : List LoadIx) (s : State) :
    (s.eachLoad ns (State.demandOn c)).pending = s.pending :=
  s.eachLoad_keeps (·.pending) _ (fun n t => State.demandOn_pending c n t) ns
@[simp] theorem State.eachLoad_demandOn_phase (c : Cause) (ns : List LoadIx) (s : State) :
    (s.eachLoad ns (State.demandOn c)).phase = s.phase :=
  s.eachLoad_keeps (·.phase) _ (fun n t => State.demandOn_phase c n t) ns
@[simp] theorem State.eachLoad_demandOn_timeBase (c : Cause) (ns : List LoadIx) (s : State) :
    (s.eachLoad ns (State.demandOn c)).timeBase = s.timeBase :=
  s.eachLoad_keeps (·.timeBase) _ (fun n t => State.demandOn_timeBase c n t) ns
@[simp] theorem State.eachLoad_demandOn_startup (c : Cause) (ns : List LoadIx) (s : State) :
    (s.eachLoad ns (State.demandOn c)).startup = s.startup :=
  s.eachLoad_keeps (·.startup) _ (fun n t => State.demandOn_startup c n t) ns
@[simp] theorem State.eachLoad_demandOn_ws (c : Cause) (ns : List LoadIx) (s : State) :
    (s.eachLoad ns (State.demandOn c)).ws = s.ws :=
  s.eachLoad_keeps (·.ws) _ (fun n t => State.demandOn_ws c n t) ns
@[simp] theorem State.eachLoad_demandOn_sev (c : Cause) (ns : List LoadIx) (s : State) :
    (s.eachLoad ns (State.demandOn c)).sev = s.sev :=
  s.eachLoad_keeps (·.sev) _ (fun n t => State.demandOn_sev c n t) ns
@[simp] theorem State.eachLoad_demandOn_scan (c : Cause) (ns : List LoadIx) (s : State) :
    (s.eachLoad ns (State.demandOn c)).scan = s.scan :=
  s.eachLoad_keeps (·.scan) _ (fun n t => State.demandOn_scan c n t) ns
@[simp] theorem State.eachLoad_demandOn_watches (c : Cause) (ns : List LoadIx) (s : State) :
    (s.eachLoad ns (State.demandOn c)).watches = s.watches :=
  s.eachLoad_keeps (·.watches) _ (fun n t => State.demandOn_watches c n t) ns
@[simp] theorem State.eachLoad_demandOn_link (c : Cause) (ns : List LoadIx) (s : State) :
    (s.eachLoad ns (State.demandOn c)).link = s.link :=
  s.eachLoad_keeps (·.link) _ (fun n t => State.demandOn_link c n t) ns
@[simp] theorem State.eachLoad_demandOn_session (c : Cause) (ns : List LoadIx) (s : State) :
    (s.eachLoad ns (State.demandOn c)).session = s.session :=
  s.eachLoad_keeps (·.session) _ (fun n t => State.demandOn_session c n t) ns
@[simp] theorem State.eachLoad_demandOn_prof (c : Cause) (ns : List LoadIx) (s : State) :
    (s.eachLoad ns (State.demandOn c)).prof = s.prof :=
  s.eachLoad_keeps (·.prof) _ (fun n t => State.demandOn_prof c n t) ns
@[simp] theorem State.eachLoad_demandOn_quals (c : Cause) (ns : List LoadIx) (s : State) :
    (s.eachLoad ns (State.demandOn c)).quals = s.quals :=
  s.eachLoad_keeps (·.quals) _ (fun n t => State.demandOn_quals c n t) ns
@[simp] theorem State.eachLoad_demandOn_choices (c : Cause) (ns : List LoadIx) (s : State) :
    (s.eachLoad ns (State.demandOn c)).choices = s.choices :=
  s.eachLoad_keeps (·.choices) _ (fun n t => State.demandOn_choices c n t) ns
@[simp] theorem State.eachLoad_shedLoad_pending (ns : List LoadIx) (s : State) :
    (s.eachLoad ns State.shedLoad).pending = s.pending :=
  s.eachLoad_keeps (·.pending) _ (fun n t => State.shedLoad_pending n t) ns
@[simp] theorem State.eachLoad_shedLoad_phase (ns : List LoadIx) (s : State) :
    (s.eachLoad ns State.shedLoad).phase = s.phase :=
  s.eachLoad_keeps (·.phase) _ (fun n t => State.shedLoad_phase n t) ns
@[simp] theorem State.eachLoad_shedLoad_timeBase (ns : List LoadIx) (s : State) :
    (s.eachLoad ns State.shedLoad).timeBase = s.timeBase :=
  s.eachLoad_keeps (·.timeBase) _ (fun n t => State.shedLoad_timeBase n t) ns
@[simp] theorem State.eachLoad_shedLoad_startup (ns : List LoadIx) (s : State) :
    (s.eachLoad ns State.shedLoad).startup = s.startup :=
  s.eachLoad_keeps (·.startup) _ (fun n t => State.shedLoad_startup n t) ns
@[simp] theorem State.eachLoad_shedLoad_ws (ns : List LoadIx) (s : State) :
    (s.eachLoad ns State.shedLoad).ws = s.ws :=
  s.eachLoad_keeps (·.ws) _ (fun n t => State.shedLoad_ws n t) ns
@[simp] theorem State.eachLoad_shedLoad_sev (ns : List LoadIx) (s : State) :
    (s.eachLoad ns State.shedLoad).sev = s.sev :=
  s.eachLoad_keeps (·.sev) _ (fun n t => State.shedLoad_sev n t) ns
@[simp] theorem State.eachLoad_shedLoad_scan (ns : List LoadIx) (s : State) :
    (s.eachLoad ns State.shedLoad).scan = s.scan :=
  s.eachLoad_keeps (·.scan) _ (fun n t => State.shedLoad_scan n t) ns
@[simp] theorem State.eachLoad_shedLoad_watches (ns : List LoadIx) (s : State) :
    (s.eachLoad ns State.shedLoad).watches = s.watches :=
  s.eachLoad_keeps (·.watches) _ (fun n t => State.shedLoad_watches n t) ns
@[simp] theorem State.eachLoad_shedLoad_link (ns : List LoadIx) (s : State) :
    (s.eachLoad ns State.shedLoad).link = s.link :=
  s.eachLoad_keeps (·.link) _ (fun n t => State.shedLoad_link n t) ns
@[simp] theorem State.eachLoad_shedLoad_session (ns : List LoadIx) (s : State) :
    (s.eachLoad ns State.shedLoad).session = s.session :=
  s.eachLoad_keeps (·.session) _ (fun n t => State.shedLoad_session n t) ns
@[simp] theorem State.eachLoad_shedLoad_prof (ns : List LoadIx) (s : State) :
    (s.eachLoad ns State.shedLoad).prof = s.prof :=
  s.eachLoad_keeps (·.prof) _ (fun n t => State.shedLoad_prof n t) ns
@[simp] theorem State.eachLoad_shedLoad_quals (ns : List LoadIx) (s : State) :
    (s.eachLoad ns State.shedLoad).quals = s.quals :=
  s.eachLoad_keeps (·.quals) _ (fun n t => State.shedLoad_quals n t) ns
@[simp] theorem State.eachLoad_shedLoad_choices (ns : List LoadIx) (s : State) :
    (s.eachLoad ns State.shedLoad).choices = s.choices :=
  s.eachLoad_keeps (·.choices) _ (fun n t => State.shedLoad_choices n t) ns
@[simp] theorem State.eachLoad_restoreLoad_pending (ns : List LoadIx) (s : State) :
    (s.eachLoad ns State.restoreLoad).pending = s.pending :=
  s.eachLoad_keeps (·.pending) _ (fun n t => State.restoreLoad_pending n t) ns
@[simp] theorem State.eachLoad_restoreLoad_phase (ns : List LoadIx) (s : State) :
    (s.eachLoad ns State.restoreLoad).phase = s.phase :=
  s.eachLoad_keeps (·.phase) _ (fun n t => State.restoreLoad_phase n t) ns
@[simp] theorem State.eachLoad_restoreLoad_timeBase (ns : List LoadIx) (s : State) :
    (s.eachLoad ns State.restoreLoad).timeBase = s.timeBase :=
  s.eachLoad_keeps (·.timeBase) _ (fun n t => State.restoreLoad_timeBase n t) ns
@[simp] theorem State.eachLoad_restoreLoad_startup (ns : List LoadIx) (s : State) :
    (s.eachLoad ns State.restoreLoad).startup = s.startup :=
  s.eachLoad_keeps (·.startup) _ (fun n t => State.restoreLoad_startup n t) ns
@[simp] theorem State.eachLoad_restoreLoad_ws (ns : List LoadIx) (s : State) :
    (s.eachLoad ns State.restoreLoad).ws = s.ws :=
  s.eachLoad_keeps (·.ws) _ (fun n t => State.restoreLoad_ws n t) ns
@[simp] theorem State.eachLoad_restoreLoad_sev (ns : List LoadIx) (s : State) :
    (s.eachLoad ns State.restoreLoad).sev = s.sev :=
  s.eachLoad_keeps (·.sev) _ (fun n t => State.restoreLoad_sev n t) ns
@[simp] theorem State.eachLoad_restoreLoad_scan (ns : List LoadIx) (s : State) :
    (s.eachLoad ns State.restoreLoad).scan = s.scan :=
  s.eachLoad_keeps (·.scan) _ (fun n t => State.restoreLoad_scan n t) ns
@[simp] theorem State.eachLoad_restoreLoad_watches (ns : List LoadIx) (s : State) :
    (s.eachLoad ns State.restoreLoad).watches = s.watches :=
  s.eachLoad_keeps (·.watches) _ (fun n t => State.restoreLoad_watches n t) ns
@[simp] theorem State.eachLoad_restoreLoad_link (ns : List LoadIx) (s : State) :
    (s.eachLoad ns State.restoreLoad).link = s.link :=
  s.eachLoad_keeps (·.link) _ (fun n t => State.restoreLoad_link n t) ns
@[simp] theorem State.eachLoad_restoreLoad_session (ns : List LoadIx) (s : State) :
    (s.eachLoad ns State.restoreLoad).session = s.session :=
  s.eachLoad_keeps (·.session) _ (fun n t => State.restoreLoad_session n t) ns
@[simp] theorem State.eachLoad_restoreLoad_prof (ns : List LoadIx) (s : State) :
    (s.eachLoad ns State.restoreLoad).prof = s.prof :=
  s.eachLoad_keeps (·.prof) _ (fun n t => State.restoreLoad_prof n t) ns
@[simp] theorem State.eachLoad_restoreLoad_quals (ns : List LoadIx) (s : State) :
    (s.eachLoad ns State.restoreLoad).quals = s.quals :=
  s.eachLoad_keeps (·.quals) _ (fun n t => State.restoreLoad_quals n t) ns
@[simp] theorem State.eachLoad_restoreLoad_choices (ns : List LoadIx) (s : State) :
    (s.eachLoad ns State.restoreLoad).choices = s.choices :=
  s.eachLoad_keeps (·.choices) _ (fun n t => State.restoreLoad_choices n t) ns
@[simp] theorem State.eachLoad_orphanAction_pending (ns : List LoadIx) (s : State) :
    (s.eachLoad ns State.orphanAction).pending = s.pending :=
  s.eachLoad_keeps (·.pending) _ (fun n t => State.orphanAction_pending n t) ns
@[simp] theorem State.eachLoad_orphanAction_phase (ns : List LoadIx) (s : State) :
    (s.eachLoad ns State.orphanAction).phase = s.phase :=
  s.eachLoad_keeps (·.phase) _ (fun n t => State.orphanAction_phase n t) ns
@[simp] theorem State.eachLoad_orphanAction_timeBase (ns : List LoadIx) (s : State) :
    (s.eachLoad ns State.orphanAction).timeBase = s.timeBase :=
  s.eachLoad_keeps (·.timeBase) _ (fun n t => State.orphanAction_timeBase n t) ns
@[simp] theorem State.eachLoad_orphanAction_startup (ns : List LoadIx) (s : State) :
    (s.eachLoad ns State.orphanAction).startup = s.startup :=
  s.eachLoad_keeps (·.startup) _ (fun n t => State.orphanAction_startup n t) ns
@[simp] theorem State.eachLoad_orphanAction_ws (ns : List LoadIx) (s : State) :
    (s.eachLoad ns State.orphanAction).ws = s.ws :=
  s.eachLoad_keeps (·.ws) _ (fun n t => State.orphanAction_ws n t) ns
@[simp] theorem State.eachLoad_orphanAction_sev (ns : List LoadIx) (s : State) :
    (s.eachLoad ns State.orphanAction).sev = s.sev :=
  s.eachLoad_keeps (·.sev) _ (fun n t => State.orphanAction_sev n t) ns
@[simp] theorem State.eachLoad_orphanAction_scan (ns : List LoadIx) (s : State) :
    (s.eachLoad ns State.orphanAction).scan = s.scan :=
  s.eachLoad_keeps (·.scan) _ (fun n t => State.orphanAction_scan n t) ns
@[simp] theorem State.eachLoad_orphanAction_watches (ns : List LoadIx) (s : State) :
    (s.eachLoad ns State.orphanAction).watches = s.watches :=
  s.eachLoad_keeps (·.watches) _ (fun n t => State.orphanAction_watches n t) ns
@[simp] theorem State.eachLoad_orphanAction_link (ns : List LoadIx) (s : State) :
    (s.eachLoad ns State.orphanAction).link = s.link :=
  s.eachLoad_keeps (·.link) _ (fun n t => State.orphanAction_link n t) ns
@[simp] theorem State.eachLoad_orphanAction_session (ns : List LoadIx) (s : State) :
    (s.eachLoad ns State.orphanAction).session = s.session :=
  s.eachLoad_keeps (·.session) _ (fun n t => State.orphanAction_session n t) ns
@[simp] theorem State.eachLoad_orphanAction_prof (ns : List LoadIx) (s : State) :
    (s.eachLoad ns State.orphanAction).prof = s.prof :=
  s.eachLoad_keeps (·.prof) _ (fun n t => State.orphanAction_prof n t) ns
@[simp] theorem State.eachLoad_orphanAction_quals (ns : List LoadIx) (s : State) :
    (s.eachLoad ns State.orphanAction).quals = s.quals :=
  s.eachLoad_keeps (·.quals) _ (fun n t => State.orphanAction_quals n t) ns
@[simp] theorem State.eachLoad_orphanAction_choices (ns : List LoadIx) (s : State) :
    (s.eachLoad ns State.orphanAction).choices = s.choices :=
  s.eachLoad_keeps (·.choices) _ (fun n t => State.orphanAction_choices n t) ns
@[simp] theorem State.eachLoad_autostartLoad_pending (ns : List LoadIx) (s : State) :
    (s.eachLoad ns State.autostartLoad).pending = s.pending :=
  s.eachLoad_keeps (·.pending) _ (fun n t => State.autostartLoad_pending n t) ns
@[simp] theorem State.eachLoad_autostartLoad_phase (ns : List LoadIx) (s : State) :
    (s.eachLoad ns State.autostartLoad).phase = s.phase :=
  s.eachLoad_keeps (·.phase) _ (fun n t => State.autostartLoad_phase n t) ns
@[simp] theorem State.eachLoad_autostartLoad_timeBase (ns : List LoadIx) (s : State) :
    (s.eachLoad ns State.autostartLoad).timeBase = s.timeBase :=
  s.eachLoad_keeps (·.timeBase) _ (fun n t => State.autostartLoad_timeBase n t) ns
@[simp] theorem State.eachLoad_autostartLoad_startup (ns : List LoadIx) (s : State) :
    (s.eachLoad ns State.autostartLoad).startup = s.startup :=
  s.eachLoad_keeps (·.startup) _ (fun n t => State.autostartLoad_startup n t) ns
@[simp] theorem State.eachLoad_autostartLoad_ws (ns : List LoadIx) (s : State) :
    (s.eachLoad ns State.autostartLoad).ws = s.ws :=
  s.eachLoad_keeps (·.ws) _ (fun n t => State.autostartLoad_ws n t) ns
@[simp] theorem State.eachLoad_autostartLoad_sev (ns : List LoadIx) (s : State) :
    (s.eachLoad ns State.autostartLoad).sev = s.sev :=
  s.eachLoad_keeps (·.sev) _ (fun n t => State.autostartLoad_sev n t) ns
@[simp] theorem State.eachLoad_autostartLoad_scan (ns : List LoadIx) (s : State) :
    (s.eachLoad ns State.autostartLoad).scan = s.scan :=
  s.eachLoad_keeps (·.scan) _ (fun n t => State.autostartLoad_scan n t) ns
@[simp] theorem State.eachLoad_autostartLoad_watches (ns : List LoadIx) (s : State) :
    (s.eachLoad ns State.autostartLoad).watches = s.watches :=
  s.eachLoad_keeps (·.watches) _ (fun n t => State.autostartLoad_watches n t) ns
@[simp] theorem State.eachLoad_autostartLoad_link (ns : List LoadIx) (s : State) :
    (s.eachLoad ns State.autostartLoad).link = s.link :=
  s.eachLoad_keeps (·.link) _ (fun n t => State.autostartLoad_link n t) ns
@[simp] theorem State.eachLoad_autostartLoad_session (ns : List LoadIx) (s : State) :
    (s.eachLoad ns State.autostartLoad).session = s.session :=
  s.eachLoad_keeps (·.session) _ (fun n t => State.autostartLoad_session n t) ns
@[simp] theorem State.eachLoad_autostartLoad_prof (ns : List LoadIx) (s : State) :
    (s.eachLoad ns State.autostartLoad).prof = s.prof :=
  s.eachLoad_keeps (·.prof) _ (fun n t => State.autostartLoad_prof n t) ns
@[simp] theorem State.eachLoad_autostartLoad_quals (ns : List LoadIx) (s : State) :
    (s.eachLoad ns State.autostartLoad).quals = s.quals :=
  s.eachLoad_keeps (·.quals) _ (fun n t => State.autostartLoad_quals n t) ns
@[simp] theorem State.eachLoad_autostartLoad_choices (ns : List LoadIx) (s : State) :
    (s.eachLoad ns State.autostartLoad).choices = s.choices :=
  s.eachLoad_keeps (·.choices) _ (fun n t => State.autostartLoad_choices n t) ns
@[simp] theorem State.killLoads_pending (s : State) : (s.killLoads).pending = s.pending := by
  simp [State.killLoads]
@[simp] theorem State.killLoads_phase (s : State) : (s.killLoads).phase = s.phase := by
  simp [State.killLoads]
@[simp] theorem State.killLoads_timeBase (s : State) : (s.killLoads).timeBase = s.timeBase := by
  simp [State.killLoads]
@[simp] theorem State.killLoads_startup (s : State) : (s.killLoads).startup = s.startup := by
  simp [State.killLoads]
@[simp] theorem State.killLoads_ws (s : State) : (s.killLoads).ws = s.ws := by
  simp [State.killLoads]
@[simp] theorem State.killLoads_sev (s : State) : (s.killLoads).sev = s.sev := by
  simp [State.killLoads]
@[simp] theorem State.killLoads_scan (s : State) : (s.killLoads).scan = s.scan := by
  simp [State.killLoads]
@[simp] theorem State.killLoads_watches (s : State) : (s.killLoads).watches = s.watches := by
  simp [State.killLoads]
@[simp] theorem State.killLoads_link (s : State) : (s.killLoads).link = s.link := by
  simp [State.killLoads]
@[simp] theorem State.killLoads_session (s : State) : (s.killLoads).session = s.session := by
  simp [State.killLoads]
@[simp] theorem State.killLoads_prof (s : State) : (s.killLoads).prof = s.prof := by
  simp [State.killLoads]
@[simp] theorem State.killLoads_quals (s : State) : (s.killLoads).quals = s.quals := by
  simp [State.killLoads]
@[simp] theorem State.killLoads_choices (s : State) : (s.killLoads).choices = s.choices := by
  simp [State.killLoads]

/-! ### The depth, ladders, watches, readings -/

@[simp] theorem State.formDepth_pending (s : State) : (s.formDepth).pending = s.pending := by
  simp only [State.formDepth]; repeat' split
  all_goals simp
@[simp] theorem State.formDepth_phase (s : State) : (s.formDepth).phase = s.phase := by
  simp only [State.formDepth]; repeat' split
  all_goals simp
@[simp] theorem State.formDepth_timeBase (s : State) : (s.formDepth).timeBase = s.timeBase := by
  simp only [State.formDepth]; repeat' split
  all_goals simp
@[simp] theorem State.formDepth_startup (s : State) : (s.formDepth).startup = s.startup := by
  simp only [State.formDepth]; repeat' split
  all_goals simp
@[simp] theorem State.formDepth_ws (s : State) : (s.formDepth).ws = s.ws := by
  simp only [State.formDepth]; repeat' split
  all_goals simp
@[simp] theorem State.formDepth_scan (s : State) : (s.formDepth).scan = s.scan := by
  simp only [State.formDepth]; repeat' split
  all_goals simp
@[simp] theorem State.formDepth_watches (s : State) : (s.formDepth).watches = s.watches := by
  simp only [State.formDepth]; repeat' split
  all_goals simp
@[simp] theorem State.formDepth_link (s : State) : (s.formDepth).link = s.link := by
  simp only [State.formDepth]; repeat' split
  all_goals simp
@[simp] theorem State.formDepth_session (s : State) : (s.formDepth).session = s.session := by
  simp only [State.formDepth]; repeat' split
  all_goals simp
@[simp] theorem State.formDepth_prof (s : State) : (s.formDepth).prof = s.prof := by
  simp only [State.formDepth]; repeat' split
  all_goals simp
@[simp] theorem State.formDepth_quals (s : State) : (s.formDepth).quals = s.quals := by
  simp only [State.formDepth]; repeat' split
  all_goals simp
@[simp] theorem State.formDepth_choices (s : State) : (s.formDepth).choices = s.choices := by
  simp only [State.formDepth]; repeat' split
  all_goals simp
@[simp] theorem State.evaluateLadder_pending (k : LadderIx) (r : Reading) (s : State) : (s.evaluateLadder k r).pending = s.pending := by
  simp only [State.evaluateLadder]; repeat' split
  all_goals simp
@[simp] theorem State.evaluateLadder_phase (k : LadderIx) (r : Reading) (s : State) : (s.evaluateLadder k r).phase = s.phase := by
  simp only [State.evaluateLadder]; repeat' split
  all_goals simp
@[simp] theorem State.evaluateLadder_timeBase (k : LadderIx) (r : Reading) (s : State) : (s.evaluateLadder k r).timeBase = s.timeBase := by
  simp only [State.evaluateLadder]; repeat' split
  all_goals simp
@[simp] theorem State.evaluateLadder_startup (k : LadderIx) (r : Reading) (s : State) : (s.evaluateLadder k r).startup = s.startup := by
  simp only [State.evaluateLadder]; repeat' split
  all_goals simp
@[simp] theorem State.evaluateLadder_ws (k : LadderIx) (r : Reading) (s : State) : (s.evaluateLadder k r).ws = s.ws := by
  simp only [State.evaluateLadder]; repeat' split
  all_goals simp
@[simp] theorem State.evaluateLadder_loads (k : LadderIx) (r : Reading) (s : State) : (s.evaluateLadder k r).loads = s.loads := by
  simp only [State.evaluateLadder]; repeat' split
  all_goals simp
@[simp] theorem State.evaluateLadder_seq (k : LadderIx) (r : Reading) (s : State) : (s.evaluateLadder k r).seq = s.seq := by
  simp only [State.evaluateLadder]; repeat' split
  all_goals simp
@[simp] theorem State.evaluateLadder_scan (k : LadderIx) (r : Reading) (s : State) : (s.evaluateLadder k r).scan = s.scan := by
  simp only [State.evaluateLadder]; repeat' split
  all_goals simp
@[simp] theorem State.evaluateLadder_watches (k : LadderIx) (r : Reading) (s : State) : (s.evaluateLadder k r).watches = s.watches := by
  simp only [State.evaluateLadder]; repeat' split
  all_goals simp
@[simp] theorem State.evaluateLadder_link (k : LadderIx) (r : Reading) (s : State) : (s.evaluateLadder k r).link = s.link := by
  simp only [State.evaluateLadder]; repeat' split
  all_goals simp
@[simp] theorem State.evaluateLadder_session (k : LadderIx) (r : Reading) (s : State) : (s.evaluateLadder k r).session = s.session := by
  simp only [State.evaluateLadder]; repeat' split
  all_goals simp
@[simp] theorem State.evaluateLadder_prof (k : LadderIx) (r : Reading) (s : State) : (s.evaluateLadder k r).prof = s.prof := by
  simp only [State.evaluateLadder]; repeat' split
  all_goals simp
@[simp] theorem State.evaluateLadder_quals (k : LadderIx) (r : Reading) (s : State) : (s.evaluateLadder k r).quals = s.quals := by
  simp only [State.evaluateLadder]; repeat' split
  all_goals simp
@[simp] theorem State.evaluateLadder_choices (k : LadderIx) (r : Reading) (s : State) : (s.evaluateLadder k r).choices = s.choices := by
  simp only [State.evaluateLadder]; repeat' split
  all_goals simp
@[simp] theorem State.ladderTakes_pending (d : Delivery (List LadderIx)) (k : LadderIx) (s : State) : (s.ladderTakes d k).pending = s.pending := by
  unfold State.ladderTakes; split <;> simp
@[simp] theorem State.ladderTakes_phase (d : Delivery (List LadderIx)) (k : LadderIx) (s : State) : (s.ladderTakes d k).phase = s.phase := by
  unfold State.ladderTakes; split <;> simp
@[simp] theorem State.ladderTakes_timeBase (d : Delivery (List LadderIx)) (k : LadderIx) (s : State) : (s.ladderTakes d k).timeBase = s.timeBase := by
  unfold State.ladderTakes; split <;> simp
@[simp] theorem State.ladderTakes_startup (d : Delivery (List LadderIx)) (k : LadderIx) (s : State) : (s.ladderTakes d k).startup = s.startup := by
  unfold State.ladderTakes; split <;> simp
@[simp] theorem State.ladderTakes_ws (d : Delivery (List LadderIx)) (k : LadderIx) (s : State) : (s.ladderTakes d k).ws = s.ws := by
  unfold State.ladderTakes; split <;> simp
@[simp] theorem State.ladderTakes_loads (d : Delivery (List LadderIx)) (k : LadderIx) (s : State) : (s.ladderTakes d k).loads = s.loads := by
  unfold State.ladderTakes; split <;> simp
@[simp] theorem State.ladderTakes_seq (d : Delivery (List LadderIx)) (k : LadderIx) (s : State) : (s.ladderTakes d k).seq = s.seq := by
  unfold State.ladderTakes; split <;> simp
@[simp] theorem State.ladderTakes_scan (d : Delivery (List LadderIx)) (k : LadderIx) (s : State) : (s.ladderTakes d k).scan = s.scan := by
  unfold State.ladderTakes; split <;> simp
@[simp] theorem State.ladderTakes_watches (d : Delivery (List LadderIx)) (k : LadderIx) (s : State) : (s.ladderTakes d k).watches = s.watches := by
  unfold State.ladderTakes; split <;> simp
@[simp] theorem State.ladderTakes_link (d : Delivery (List LadderIx)) (k : LadderIx) (s : State) : (s.ladderTakes d k).link = s.link := by
  unfold State.ladderTakes; split <;> simp
@[simp] theorem State.ladderTakes_session (d : Delivery (List LadderIx)) (k : LadderIx) (s : State) : (s.ladderTakes d k).session = s.session := by
  unfold State.ladderTakes; split <;> simp
@[simp] theorem State.ladderTakes_prof (d : Delivery (List LadderIx)) (k : LadderIx) (s : State) : (s.ladderTakes d k).prof = s.prof := by
  unfold State.ladderTakes; split <;> simp
@[simp] theorem State.ladderTakes_quals (d : Delivery (List LadderIx)) (k : LadderIx) (s : State) : (s.ladderTakes d k).quals = s.quals := by
  unfold State.ladderTakes; split <;> simp
@[simp] theorem State.ladderTakes_choices (d : Delivery (List LadderIx)) (k : LadderIx) (s : State) : (s.ladderTakes d k).choices = s.choices := by
  unfold State.ladderTakes; split <;> simp
@[simp] theorem State.laddersTake_pending (d : Delivery (List LadderIx)) (s : State) : (s.laddersTake d).pending = s.pending := by
  simp [State.laddersTake, allLadders]
@[simp] theorem State.laddersTake_phase (d : Delivery (List LadderIx)) (s : State) : (s.laddersTake d).phase = s.phase := by
  simp [State.laddersTake, allLadders]
@[simp] theorem State.laddersTake_timeBase (d : Delivery (List LadderIx)) (s : State) : (s.laddersTake d).timeBase = s.timeBase := by
  simp [State.laddersTake, allLadders]
@[simp] theorem State.laddersTake_startup (d : Delivery (List LadderIx)) (s : State) : (s.laddersTake d).startup = s.startup := by
  simp [State.laddersTake, allLadders]
@[simp] theorem State.laddersTake_ws (d : Delivery (List LadderIx)) (s : State) : (s.laddersTake d).ws = s.ws := by
  simp [State.laddersTake, allLadders]
@[simp] theorem State.laddersTake_scan (d : Delivery (List LadderIx)) (s : State) : (s.laddersTake d).scan = s.scan := by
  simp [State.laddersTake, allLadders]
@[simp] theorem State.laddersTake_watches (d : Delivery (List LadderIx)) (s : State) : (s.laddersTake d).watches = s.watches := by
  simp [State.laddersTake, allLadders]
@[simp] theorem State.laddersTake_link (d : Delivery (List LadderIx)) (s : State) : (s.laddersTake d).link = s.link := by
  simp [State.laddersTake, allLadders]
@[simp] theorem State.laddersTake_session (d : Delivery (List LadderIx)) (s : State) : (s.laddersTake d).session = s.session := by
  simp [State.laddersTake, allLadders]
@[simp] theorem State.laddersTake_prof (d : Delivery (List LadderIx)) (s : State) : (s.laddersTake d).prof = s.prof := by
  simp [State.laddersTake, allLadders]
@[simp] theorem State.laddersTake_quals (d : Delivery (List LadderIx)) (s : State) : (s.laddersTake d).quals = s.quals := by
  simp [State.laddersTake, allLadders]
@[simp] theorem State.laddersTake_choices (d : Delivery (List LadderIx)) (s : State) : (s.laddersTake d).choices = s.choices := by
  simp [State.laddersTake, allLadders]
@[simp] theorem State.handShed_pending (a : Bool) (s : State) : (s.handShed a).pending = s.pending := by
  simp [State.handShed]
@[simp] theorem State.handShed_phase (a : Bool) (s : State) : (s.handShed a).phase = s.phase := by
  simp [State.handShed]
@[simp] theorem State.handShed_timeBase (a : Bool) (s : State) : (s.handShed a).timeBase = s.timeBase := by
  simp [State.handShed]
@[simp] theorem State.handShed_startup (a : Bool) (s : State) : (s.handShed a).startup = s.startup := by
  simp [State.handShed]
@[simp] theorem State.handShed_ws (a : Bool) (s : State) : (s.handShed a).ws = s.ws := by
  simp [State.handShed]
@[simp] theorem State.handShed_scan (a : Bool) (s : State) : (s.handShed a).scan = s.scan := by
  simp [State.handShed]
@[simp] theorem State.handShed_watches (a : Bool) (s : State) : (s.handShed a).watches = s.watches := by
  simp [State.handShed]
@[simp] theorem State.handShed_link (a : Bool) (s : State) : (s.handShed a).link = s.link := by
  simp [State.handShed]
@[simp] theorem State.handShed_session (a : Bool) (s : State) : (s.handShed a).session = s.session := by
  simp [State.handShed]
@[simp] theorem State.handShed_prof (a : Bool) (s : State) : (s.handShed a).prof = s.prof := by
  simp [State.handShed]
@[simp] theorem State.handShed_quals (a : Bool) (s : State) : (s.handShed a).quals = s.quals := by
  simp [State.handShed]
@[simp] theorem State.handShed_choices (a : Bool) (s : State) : (s.handShed a).choices = s.choices := by
  simp [State.handShed]
@[simp] theorem State.handKill_pending (a : Bool) (s : State) : (s.handKill a).pending = s.pending := by
  simp only [State.handKill]; split <;> simp
@[simp] theorem State.handKill_phase (a : Bool) (s : State) : (s.handKill a).phase = s.phase := by
  simp only [State.handKill]; split <;> simp
@[simp] theorem State.handKill_timeBase (a : Bool) (s : State) : (s.handKill a).timeBase = s.timeBase := by
  simp only [State.handKill]; split <;> simp
@[simp] theorem State.handKill_startup (a : Bool) (s : State) : (s.handKill a).startup = s.startup := by
  simp only [State.handKill]; split <;> simp
@[simp] theorem State.handKill_ws (a : Bool) (s : State) : (s.handKill a).ws = s.ws := by
  simp only [State.handKill]; split <;> simp
@[simp] theorem State.handKill_sev (a : Bool) (s : State) : (s.handKill a).sev = s.sev := by
  simp only [State.handKill]; split <;> simp
@[simp] theorem State.handKill_scan (a : Bool) (s : State) : (s.handKill a).scan = s.scan := by
  simp only [State.handKill]; split <;> simp
@[simp] theorem State.handKill_watches (a : Bool) (s : State) : (s.handKill a).watches = s.watches := by
  simp only [State.handKill]; split <;> simp
@[simp] theorem State.handKill_link (a : Bool) (s : State) : (s.handKill a).link = s.link := by
  simp only [State.handKill]; split <;> simp
@[simp] theorem State.handKill_session (a : Bool) (s : State) : (s.handKill a).session = s.session := by
  simp only [State.handKill]; split <;> simp
@[simp] theorem State.handKill_prof (a : Bool) (s : State) : (s.handKill a).prof = s.prof := by
  simp only [State.handKill]; split <;> simp
@[simp] theorem State.handKill_quals (a : Bool) (s : State) : (s.handKill a).quals = s.quals := by
  simp only [State.handKill]; split <;> simp
@[simp] theorem State.handKill_choices (a : Bool) (s : State) : (s.handKill a).choices = s.choices := by
  simp only [State.handKill]; split <;> simp
@[simp] theorem State.evaluateWatch_pending (w : WatchIx) (r : Reading) (s : State) : (s.evaluateWatch w r).pending = s.pending := by
  simp only [State.evaluateWatch]; split <;> simp
@[simp] theorem State.evaluateWatch_phase (w : WatchIx) (r : Reading) (s : State) : (s.evaluateWatch w r).phase = s.phase := by
  simp only [State.evaluateWatch]; split <;> simp
@[simp] theorem State.evaluateWatch_timeBase (w : WatchIx) (r : Reading) (s : State) : (s.evaluateWatch w r).timeBase = s.timeBase := by
  simp only [State.evaluateWatch]; split <;> simp
@[simp] theorem State.evaluateWatch_startup (w : WatchIx) (r : Reading) (s : State) : (s.evaluateWatch w r).startup = s.startup := by
  simp only [State.evaluateWatch]; split <;> simp
@[simp] theorem State.evaluateWatch_ws (w : WatchIx) (r : Reading) (s : State) : (s.evaluateWatch w r).ws = s.ws := by
  simp only [State.evaluateWatch]; split <;> simp
@[simp] theorem State.evaluateWatch_loads (w : WatchIx) (r : Reading) (s : State) : (s.evaluateWatch w r).loads = s.loads := by
  simp only [State.evaluateWatch]; split <;> simp
@[simp] theorem State.evaluateWatch_seq (w : WatchIx) (r : Reading) (s : State) : (s.evaluateWatch w r).seq = s.seq := by
  simp only [State.evaluateWatch]; split <;> simp
@[simp] theorem State.evaluateWatch_sev (w : WatchIx) (r : Reading) (s : State) : (s.evaluateWatch w r).sev = s.sev := by
  simp only [State.evaluateWatch]; split <;> simp
@[simp] theorem State.evaluateWatch_scan (w : WatchIx) (r : Reading) (s : State) : (s.evaluateWatch w r).scan = s.scan := by
  simp only [State.evaluateWatch]; split <;> simp
@[simp] theorem State.evaluateWatch_link (w : WatchIx) (r : Reading) (s : State) : (s.evaluateWatch w r).link = s.link := by
  simp only [State.evaluateWatch]; split <;> simp
@[simp] theorem State.evaluateWatch_session (w : WatchIx) (r : Reading) (s : State) : (s.evaluateWatch w r).session = s.session := by
  simp only [State.evaluateWatch]; split <;> simp
@[simp] theorem State.evaluateWatch_prof (w : WatchIx) (r : Reading) (s : State) : (s.evaluateWatch w r).prof = s.prof := by
  simp only [State.evaluateWatch]; split <;> simp
@[simp] theorem State.evaluateWatch_quals (w : WatchIx) (r : Reading) (s : State) : (s.evaluateWatch w r).quals = s.quals := by
  simp only [State.evaluateWatch]; split <;> simp
@[simp] theorem State.evaluateWatch_choices (w : WatchIx) (r : Reading) (s : State) : (s.evaluateWatch w r).choices = s.choices := by
  simp only [State.evaluateWatch]; split <;> simp
@[simp] theorem State.watchTakes_pending (d : Delivery (List WatchIx)) (w : WatchIx) (s : State) : (s.watchTakes d w).pending = s.pending := by
  unfold State.watchTakes; split <;> simp
@[simp] theorem State.watchTakes_phase (d : Delivery (List WatchIx)) (w : WatchIx) (s : State) : (s.watchTakes d w).phase = s.phase := by
  unfold State.watchTakes; split <;> simp
@[simp] theorem State.watchTakes_timeBase (d : Delivery (List WatchIx)) (w : WatchIx) (s : State) : (s.watchTakes d w).timeBase = s.timeBase := by
  unfold State.watchTakes; split <;> simp
@[simp] theorem State.watchTakes_startup (d : Delivery (List WatchIx)) (w : WatchIx) (s : State) : (s.watchTakes d w).startup = s.startup := by
  unfold State.watchTakes; split <;> simp
@[simp] theorem State.watchTakes_ws (d : Delivery (List WatchIx)) (w : WatchIx) (s : State) : (s.watchTakes d w).ws = s.ws := by
  unfold State.watchTakes; split <;> simp
@[simp] theorem State.watchTakes_loads (d : Delivery (List WatchIx)) (w : WatchIx) (s : State) : (s.watchTakes d w).loads = s.loads := by
  unfold State.watchTakes; split <;> simp
@[simp] theorem State.watchTakes_seq (d : Delivery (List WatchIx)) (w : WatchIx) (s : State) : (s.watchTakes d w).seq = s.seq := by
  unfold State.watchTakes; split <;> simp
@[simp] theorem State.watchTakes_sev (d : Delivery (List WatchIx)) (w : WatchIx) (s : State) : (s.watchTakes d w).sev = s.sev := by
  unfold State.watchTakes; split <;> simp
@[simp] theorem State.watchTakes_scan (d : Delivery (List WatchIx)) (w : WatchIx) (s : State) : (s.watchTakes d w).scan = s.scan := by
  unfold State.watchTakes; split <;> simp
@[simp] theorem State.watchTakes_link (d : Delivery (List WatchIx)) (w : WatchIx) (s : State) : (s.watchTakes d w).link = s.link := by
  unfold State.watchTakes; split <;> simp
@[simp] theorem State.watchTakes_session (d : Delivery (List WatchIx)) (w : WatchIx) (s : State) : (s.watchTakes d w).session = s.session := by
  unfold State.watchTakes; split <;> simp
@[simp] theorem State.watchTakes_prof (d : Delivery (List WatchIx)) (w : WatchIx) (s : State) : (s.watchTakes d w).prof = s.prof := by
  unfold State.watchTakes; split <;> simp
@[simp] theorem State.watchTakes_quals (d : Delivery (List WatchIx)) (w : WatchIx) (s : State) : (s.watchTakes d w).quals = s.quals := by
  unfold State.watchTakes; split <;> simp
@[simp] theorem State.watchTakes_choices (d : Delivery (List WatchIx)) (w : WatchIx) (s : State) : (s.watchTakes d w).choices = s.choices := by
  unfold State.watchTakes; split <;> simp
@[simp] theorem State.watchesTake_pending (d : Delivery (List WatchIx)) (s : State) : (s.watchesTake d).pending = s.pending := by
  simp [State.watchesTake, allWatches]
@[simp] theorem State.watchesTake_phase (d : Delivery (List WatchIx)) (s : State) : (s.watchesTake d).phase = s.phase := by
  simp [State.watchesTake, allWatches]
@[simp] theorem State.watchesTake_timeBase (d : Delivery (List WatchIx)) (s : State) : (s.watchesTake d).timeBase = s.timeBase := by
  simp [State.watchesTake, allWatches]
@[simp] theorem State.watchesTake_startup (d : Delivery (List WatchIx)) (s : State) : (s.watchesTake d).startup = s.startup := by
  simp [State.watchesTake, allWatches]
@[simp] theorem State.watchesTake_ws (d : Delivery (List WatchIx)) (s : State) : (s.watchesTake d).ws = s.ws := by
  simp [State.watchesTake, allWatches]
@[simp] theorem State.watchesTake_loads (d : Delivery (List WatchIx)) (s : State) : (s.watchesTake d).loads = s.loads := by
  simp [State.watchesTake, allWatches]
@[simp] theorem State.watchesTake_seq (d : Delivery (List WatchIx)) (s : State) : (s.watchesTake d).seq = s.seq := by
  simp [State.watchesTake, allWatches]
@[simp] theorem State.watchesTake_sev (d : Delivery (List WatchIx)) (s : State) : (s.watchesTake d).sev = s.sev := by
  simp [State.watchesTake, allWatches]
@[simp] theorem State.watchesTake_scan (d : Delivery (List WatchIx)) (s : State) : (s.watchesTake d).scan = s.scan := by
  simp [State.watchesTake, allWatches]
@[simp] theorem State.watchesTake_link (d : Delivery (List WatchIx)) (s : State) : (s.watchesTake d).link = s.link := by
  simp [State.watchesTake, allWatches]
@[simp] theorem State.watchesTake_session (d : Delivery (List WatchIx)) (s : State) : (s.watchesTake d).session = s.session := by
  simp [State.watchesTake, allWatches]
@[simp] theorem State.watchesTake_prof (d : Delivery (List WatchIx)) (s : State) : (s.watchesTake d).prof = s.prof := by
  simp [State.watchesTake, allWatches]
@[simp] theorem State.watchesTake_quals (d : Delivery (List WatchIx)) (s : State) : (s.watchesTake d).quals = s.quals := by
  simp [State.watchesTake, allWatches]
@[simp] theorem State.watchesTake_choices (d : Delivery (List WatchIx)) (s : State) : (s.watchesTake d).choices = s.choices := by
  simp [State.watchesTake, allWatches]
@[simp] theorem State.sensorReport_pending (c : ChanIx) (raw : Nat) (s : State) : (s.sensorReport c raw).pending = s.pending := by
  simp only [State.sensorReport]; split <;> simp
@[simp] theorem State.sensorReport_phase (c : ChanIx) (raw : Nat) (s : State) : (s.sensorReport c raw).phase = s.phase := by
  simp only [State.sensorReport]; split <;> simp
@[simp] theorem State.sensorReport_timeBase (c : ChanIx) (raw : Nat) (s : State) : (s.sensorReport c raw).timeBase = s.timeBase := by
  simp only [State.sensorReport]; split <;> simp
@[simp] theorem State.sensorReport_startup (c : ChanIx) (raw : Nat) (s : State) : (s.sensorReport c raw).startup = s.startup := by
  simp only [State.sensorReport]; split <;> simp
@[simp] theorem State.sensorReport_ws (c : ChanIx) (raw : Nat) (s : State) : (s.sensorReport c raw).ws = s.ws := by
  simp only [State.sensorReport]; split <;> simp
@[simp] theorem State.sensorReport_loads (c : ChanIx) (raw : Nat) (s : State) : (s.sensorReport c raw).loads = s.loads := by
  simp only [State.sensorReport]; split <;> simp
@[simp] theorem State.sensorReport_seq (c : ChanIx) (raw : Nat) (s : State) : (s.sensorReport c raw).seq = s.seq := by
  simp only [State.sensorReport]; split <;> simp
@[simp] theorem State.sensorReport_sev (c : ChanIx) (raw : Nat) (s : State) : (s.sensorReport c raw).sev = s.sev := by
  simp only [State.sensorReport]; split <;> simp
@[simp] theorem State.sensorReport_scan (c : ChanIx) (raw : Nat) (s : State) : (s.sensorReport c raw).scan = s.scan := by
  simp only [State.sensorReport]; split <;> simp
@[simp] theorem State.sensorReport_watches (c : ChanIx) (raw : Nat) (s : State) : (s.sensorReport c raw).watches = s.watches := by
  simp only [State.sensorReport]; split <;> simp
@[simp] theorem State.sensorReport_link (c : ChanIx) (raw : Nat) (s : State) : (s.sensorReport c raw).link = s.link := by
  simp only [State.sensorReport]; split <;> simp
@[simp] theorem State.sensorReport_session (c : ChanIx) (raw : Nat) (s : State) : (s.sensorReport c raw).session = s.session := by
  simp only [State.sensorReport]; split <;> simp
@[simp] theorem State.sensorReport_prof (c : ChanIx) (raw : Nat) (s : State) : (s.sensorReport c raw).prof = s.prof := by
  simp only [State.sensorReport]; split <;> simp
@[simp] theorem State.sensorReport_quals (c : ChanIx) (raw : Nat) (s : State) : (s.sensorReport c raw).quals = s.quals := by
  simp only [State.sensorReport]; split <;> simp
@[simp] theorem State.sensorReport_choices (c : ChanIx) (raw : Nat) (s : State) : (s.sensorReport c raw).choices = s.choices := by
  simp only [State.sensorReport]; split <;> simp
@[simp] theorem State.readingArrives_pending (c : ChanIx) (b : Bool) (raw : Nat) (s : State) : (s.readingArrives c b raw).pending = s.pending := by
  simp [State.readingArrives]
@[simp] theorem State.readingArrives_phase (c : ChanIx) (b : Bool) (raw : Nat) (s : State) : (s.readingArrives c b raw).phase = s.phase := by
  simp [State.readingArrives]
@[simp] theorem State.readingArrives_timeBase (c : ChanIx) (b : Bool) (raw : Nat) (s : State) : (s.readingArrives c b raw).timeBase = s.timeBase := by
  simp [State.readingArrives]
@[simp] theorem State.readingArrives_startup (c : ChanIx) (b : Bool) (raw : Nat) (s : State) : (s.readingArrives c b raw).startup = s.startup := by
  simp [State.readingArrives]
@[simp] theorem State.readingArrives_ws (c : ChanIx) (b : Bool) (raw : Nat) (s : State) : (s.readingArrives c b raw).ws = s.ws := by
  simp [State.readingArrives]
@[simp] theorem State.readingArrives_loads (c : ChanIx) (b : Bool) (raw : Nat) (s : State) : (s.readingArrives c b raw).loads = s.loads := by
  simp [State.readingArrives]
@[simp] theorem State.readingArrives_seq (c : ChanIx) (b : Bool) (raw : Nat) (s : State) : (s.readingArrives c b raw).seq = s.seq := by
  simp [State.readingArrives]
@[simp] theorem State.readingArrives_sev (c : ChanIx) (b : Bool) (raw : Nat) (s : State) : (s.readingArrives c b raw).sev = s.sev := by
  simp [State.readingArrives]
@[simp] theorem State.readingArrives_watches (c : ChanIx) (b : Bool) (raw : Nat) (s : State) : (s.readingArrives c b raw).watches = s.watches := by
  simp [State.readingArrives]
@[simp] theorem State.readingArrives_link (c : ChanIx) (b : Bool) (raw : Nat) (s : State) : (s.readingArrives c b raw).link = s.link := by
  simp [State.readingArrives]
@[simp] theorem State.readingArrives_session (c : ChanIx) (b : Bool) (raw : Nat) (s : State) : (s.readingArrives c b raw).session = s.session := by
  simp [State.readingArrives]
@[simp] theorem State.readingArrives_prof (c : ChanIx) (b : Bool) (raw : Nat) (s : State) : (s.readingArrives c b raw).prof = s.prof := by
  simp [State.readingArrives]
@[simp] theorem State.readingArrives_quals (c : ChanIx) (b : Bool) (raw : Nat) (s : State) : (s.readingArrives c b raw).quals = s.quals := by
  simp [State.readingArrives]
@[simp] theorem State.readingArrives_choices (c : ChanIx) (b : Bool) (raw : Nat) (s : State) : (s.readingArrives c b raw).choices = s.choices := by
  simp [State.readingArrives]
@[simp] theorem State.forceFloor_pending (l : Nat) (s : State) : (s.forceFloor l).pending = s.pending := by
  simp [State.forceFloor]
@[simp] theorem State.forceFloor_phase (l : Nat) (s : State) : (s.forceFloor l).phase = s.phase := by
  simp [State.forceFloor]
@[simp] theorem State.forceFloor_timeBase (l : Nat) (s : State) : (s.forceFloor l).timeBase = s.timeBase := by
  simp [State.forceFloor]
@[simp] theorem State.forceFloor_startup (l : Nat) (s : State) : (s.forceFloor l).startup = s.startup := by
  simp [State.forceFloor]
@[simp] theorem State.forceFloor_ws (l : Nat) (s : State) : (s.forceFloor l).ws = s.ws := by
  simp [State.forceFloor]
@[simp] theorem State.forceFloor_scan (l : Nat) (s : State) : (s.forceFloor l).scan = s.scan := by
  simp [State.forceFloor]
@[simp] theorem State.forceFloor_watches (l : Nat) (s : State) : (s.forceFloor l).watches = s.watches := by
  simp [State.forceFloor]
@[simp] theorem State.forceFloor_link (l : Nat) (s : State) : (s.forceFloor l).link = s.link := by
  simp [State.forceFloor]
@[simp] theorem State.forceFloor_session (l : Nat) (s : State) : (s.forceFloor l).session = s.session := by
  simp [State.forceFloor]
@[simp] theorem State.forceFloor_prof (l : Nat) (s : State) : (s.forceFloor l).prof = s.prof := by
  simp [State.forceFloor]
@[simp] theorem State.forceFloor_quals (l : Nat) (s : State) : (s.forceFloor l).quals = s.quals := by
  simp [State.forceFloor]
@[simp] theorem State.forceFloor_choices (l : Nat) (s : State) : (s.forceFloor l).choices = s.choices := by
  simp [State.forceFloor]
@[simp] theorem State.resetLadder_pending (k : LadderIx) (o n : LadderConfig) (s : State) : (s.resetLadder k o n).pending = s.pending := by
  simp only [State.resetLadder]; repeat' split
  all_goals simp
@[simp] theorem State.resetLadder_phase (k : LadderIx) (o n : LadderConfig) (s : State) : (s.resetLadder k o n).phase = s.phase := by
  simp only [State.resetLadder]; repeat' split
  all_goals simp
@[simp] theorem State.resetLadder_timeBase (k : LadderIx) (o n : LadderConfig) (s : State) : (s.resetLadder k o n).timeBase = s.timeBase := by
  simp only [State.resetLadder]; repeat' split
  all_goals simp
@[simp] theorem State.resetLadder_startup (k : LadderIx) (o n : LadderConfig) (s : State) : (s.resetLadder k o n).startup = s.startup := by
  simp only [State.resetLadder]; repeat' split
  all_goals simp
@[simp] theorem State.resetLadder_ws (k : LadderIx) (o n : LadderConfig) (s : State) : (s.resetLadder k o n).ws = s.ws := by
  simp only [State.resetLadder]; repeat' split
  all_goals simp
@[simp] theorem State.resetLadder_loads (k : LadderIx) (o n : LadderConfig) (s : State) : (s.resetLadder k o n).loads = s.loads := by
  simp only [State.resetLadder]; repeat' split
  all_goals simp
@[simp] theorem State.resetLadder_seq (k : LadderIx) (o n : LadderConfig) (s : State) : (s.resetLadder k o n).seq = s.seq := by
  simp only [State.resetLadder]; repeat' split
  all_goals simp
@[simp] theorem State.resetLadder_scan (k : LadderIx) (o n : LadderConfig) (s : State) : (s.resetLadder k o n).scan = s.scan := by
  simp only [State.resetLadder]; repeat' split
  all_goals simp
@[simp] theorem State.resetLadder_watches (k : LadderIx) (o n : LadderConfig) (s : State) : (s.resetLadder k o n).watches = s.watches := by
  simp only [State.resetLadder]; repeat' split
  all_goals simp
@[simp] theorem State.resetLadder_link (k : LadderIx) (o n : LadderConfig) (s : State) : (s.resetLadder k o n).link = s.link := by
  simp only [State.resetLadder]; repeat' split
  all_goals simp
@[simp] theorem State.resetLadder_session (k : LadderIx) (o n : LadderConfig) (s : State) : (s.resetLadder k o n).session = s.session := by
  simp only [State.resetLadder]; repeat' split
  all_goals simp
@[simp] theorem State.resetLadder_prof (k : LadderIx) (o n : LadderConfig) (s : State) : (s.resetLadder k o n).prof = s.prof := by
  simp only [State.resetLadder]; repeat' split
  all_goals simp
@[simp] theorem State.resetLadder_quals (k : LadderIx) (o n : LadderConfig) (s : State) : (s.resetLadder k o n).quals = s.quals := by
  simp only [State.resetLadder]; repeat' split
  all_goals simp
@[simp] theorem State.resetLadder_choices (k : LadderIx) (o n : LadderConfig) (s : State) : (s.resetLadder k o n).choices = s.choices := by
  simp only [State.resetLadder]; repeat' split
  all_goals simp

/-! ### Time -/

@[simp] theorem Timer.elapse_stopped (d : Nat) : Timer.stopped.elapse d = .stopped := rfl
@[simp] theorem Timer.elapse_overdue (d : Nat) : Timer.overdue.elapse d = .overdue := rfl
@[simp] theorem Timer.elapse_running (d left : Nat) :
    (Timer.running left).elapse d = if d ≤ left then .running (left - d) else .overdue := rfl
@[simp] theorem Timer.elapse_isRunning (d : Nat) (t : Timer) : (t.elapse d).isRunning = t.isRunning := by
  cases t <;> simp only [Timer.elapse]
  split <;> rfl
@[simp] theorem Timer.isRunning_overdue : Timer.overdue.isRunning = true := rfl
@[simp] theorem Timer.left_stopped : Timer.stopped.left = 0 := rfl
@[simp] theorem Timer.left_running (n : Nat) : (Timer.running n).left = n := rfl
@[simp] theorem Timer.left_overdue : Timer.overdue.left = 0 := rfl
@[simp] theorem Timer.allows_stopped (d : Nat) : Timer.stopped.allows d = true := rfl
@[simp] theorem Timer.allows_running (d left : Nat) : (Timer.running left).allows d = decide (d ≤ left + 1) := rfl
@[simp] theorem Timer.allows_overdue (d : Nat) : Timer.overdue.allows d = decide (d = 0) := rfl
@[simp] theorem Timer.isRunning_stopped : Timer.stopped.isRunning = false := rfl
@[simp] theorem Timer.isRunning_running (n : Nat) : (Timer.running n).isRunning = true := rfl
@[simp] theorem LoadRec.elapse_demand (d : Nat) (r : LoadRec) : (r.elapse d).demand = r.demand := rfl
@[simp] theorem LoadRec.elapse_state (d : Nat) (r : LoadRec) : (r.elapse d).state = r.state := rfl
@[simp] theorem LoadRec.elapse_retries (d : Nat) (r : LoadRec) : (r.elapse d).retries = r.retries := rfl
@[simp] theorem LoadRec.elapse_tripCause (d : Nat) (r : LoadRec) : (r.elapse d).tripCause = r.tripCause := rfl
@[simp] theorem LoadRec.elapse_overStreak (d : Nat) (r : LoadRec) : (r.elapse d).overStreak = r.overStreak := rfl
@[simp] theorem LoadRec.elapse_senseStreak (d : Nat) (r : LoadRec) : (r.elapse d).senseStreak = r.senseStreak := rfl
@[simp] theorem LoadRec.elapse_entry (d : Nat) (r : LoadRec) : (r.elapse d).entry = r.entry := rfl
@[simp] theorem Qualifier.elapse_pin (d : Nat) (q : Qualifier) : (q.elapse d).pin = q.pin := rfl
@[simp] theorem Qualifier.elapse_qualified (d : Nat) (q : Qualifier) : (q.elapse d).qualified = q.qualified := rfl
@[simp] theorem Save.elapse_target (d : Nat) (v : Save) : (v.elapse d).target = v.target := rfl
@[simp] theorem Save.elapse_generation (d : Nat) (v : Save) : (v.elapse d).generation = v.generation := rfl
@[simp] theorem Save.elapse_image (d : Nat) (v : Save) : (v.elapse d).image = v.image := rfl
@[simp] theorem State.elapse_seq_queue (d : Nat) (s : State) : (s.elapse d).seq.queue = s.seq.queue := by
  unfold State.elapse; split <;> rfl
@[simp] theorem State.elapse_seq_counter (d : Nat) (s : State) : (s.elapse d).seq.counter = s.seq.counter := by
  unfold State.elapse; split <;> rfl
@[simp] theorem State.elapse_seq_slot (d : Nat) (s : State) : (s.elapse d).seq.slot = s.seq.slot := by
  unfold State.elapse; split <;> rfl
@[simp] theorem State.elapse_sev_ladders (d : Nat) (s : State) : (s.elapse d).sev.ladders = s.sev.ladders := by
  unfold State.elapse; split <;> rfl
@[simp] theorem State.elapse_sev_shedInput (d : Nat) (s : State) : (s.elapse d).sev.shedInput = s.sev.shedInput := by
  unfold State.elapse; split <;> rfl
@[simp] theorem State.elapse_sev_hostFloor (d : Nat) (s : State) : (s.elapse d).sev.hostFloor = s.sev.hostFloor := by
  unfold State.elapse; split <;> rfl
@[simp] theorem State.elapse_sev_depth (d : Nat) (s : State) : (s.elapse d).sev.depth = s.sev.depth := by
  unfold State.elapse; split <;> rfl
@[simp] theorem State.elapse_sev_contributor (d : Nat) (s : State) : (s.elapse d).sev.contributor = s.sev.contributor := by
  unfold State.elapse; split <;> rfl
@[simp] theorem State.elapse_scan_state (d : Nat) (s : State) : (s.elapse d).scan.state = s.scan.state := by
  unfold State.elapse; split <;> rfl
@[simp] theorem State.elapse_scan_cursor (d : Nat) (s : State) : (s.elapse d).scan.cursor = s.scan.cursor := by
  unfold State.elapse; split <;> rfl
@[simp] theorem State.elapse_scan_records (d : Nat) (s : State) : (s.elapse d).scan.records = s.scan.records := by
  unfold State.elapse; split <;> rfl
@[simp] theorem State.elapse_scan_primed (d : Nat) (s : State) : (s.elapse d).scan.primed = s.scan.primed := by
  unfold State.elapse; split <;> rfl
@[simp] theorem State.elapse_scan_toLadders (d : Nat) (s : State) : (s.elapse d).scan.toLadders = s.scan.toLadders := by
  unfold State.elapse; split <;> rfl
@[simp] theorem State.elapse_scan_toWatches (d : Nat) (s : State) : (s.elapse d).scan.toWatches = s.scan.toWatches := by
  unfold State.elapse; split <;> rfl
@[simp] theorem State.elapse_scan_toLoads (d : Nat) (s : State) : (s.elapse d).scan.toLoads = s.scan.toLoads := by
  unfold State.elapse; split <;> rfl
@[simp] theorem State.elapse_link_rxEnabled (d : Nat) (s : State) : (s.elapse d).link.rxEnabled = s.link.rxEnabled := by
  unfold State.elapse; split <;> rfl
@[simp] theorem State.elapse_link_framer (d : Nat) (s : State) : (s.elapse d).link.framer = s.link.framer := by
  unfold State.elapse; split <;> rfl
@[simp] theorem State.elapse_link_inbound (d : Nat) (s : State) : (s.elapse d).link.inbound = s.link.inbound := by
  unfold State.elapse; split <;> rfl
@[simp] theorem State.elapse_link_replies (d : Nat) (s : State) : (s.elapse d).link.replies = s.link.replies := by
  unfold State.elapse; split <;> rfl
@[simp] theorem State.elapse_link_tx (d : Nat) (s : State) : (s.elapse d).link.tx = s.link.tx := by
  unfold State.elapse; split <;> rfl
@[simp] theorem State.elapse_link_stats (d : Nat) (s : State) : (s.elapse d).link.stats = s.link.stats := by
  unfold State.elapse; split <;> rfl
@[simp] theorem State.elapse_session_state (d : Nat) (s : State) : (s.elapse d).session.state = s.session.state := by
  unfold State.elapse; split <;> rfl
@[simp] theorem State.elapse_session_cache (d : Nat) (s : State) : (s.elapse d).session.cache = s.session.cache := by
  unfold State.elapse; split <;> rfl
@[simp] theorem State.elapse_session_cause (d : Nat) (s : State) : (s.elapse d).session.cause = s.session.cause := by
  unfold State.elapse; split <;> rfl
@[simp] theorem State.elapse_session_taking (d : Nat) (s : State) : (s.elapse d).session.taking = s.session.taking := by
  unfold State.elapse; split <;> rfl
@[simp] theorem State.elapse_prof_slot0 (d : Nat) (s : State) : (s.elapse d).prof.slot0 = s.prof.slot0 := by
  unfold State.elapse; split <;> rfl
@[simp] theorem State.elapse_prof_slot1 (d : Nat) (s : State) : (s.elapse d).prof.slot1 = s.prof.slot1 := by
  unfold State.elapse; split <;> rfl
@[simp] theorem State.elapse_prof_known0 (d : Nat) (s : State) : (s.elapse d).prof.known0 = s.prof.known0 := by
  unfold State.elapse; split <;> rfl
@[simp] theorem State.elapse_prof_known1 (d : Nat) (s : State) : (s.elapse d).prof.known1 = s.prof.known1 := by
  unfold State.elapse; split <;> rfl
@[simp] theorem State.elapse_prof_active (d : Nat) (s : State) : (s.elapse d).prof.active = s.prof.active := by
  unfold State.elapse; split <;> rfl
@[simp] theorem State.elapse_prof_generation (d : Nat) (s : State) : (s.elapse d).prof.generation = s.prof.generation := by
  unfold State.elapse; split <;> rfl
@[simp] theorem State.elapse_prof_dirty (d : Nat) (s : State) : (s.elapse d).prof.dirty = s.prof.dirty := by
  unfold State.elapse; split <;> rfl
@[simp] theorem State.elapse_prof_straps (d : Nat) (s : State) : (s.elapse d).prof.straps = s.prof.straps := by
  unfold State.elapse; split <;> rfl

/-! ### The waiting readings of the scanner -/

@[simp] theorem Scanner.deliver_state (w : WorkingSet) (ch : ChanIx) (r : Reading) (c : Scanner) :
    (c.deliver w ch r).state = c.state := rfl
@[simp] theorem Scanner.deliver_cursor (w : WorkingSet) (ch : ChanIx) (r : Reading) (c : Scanner) :
    (c.deliver w ch r).cursor = c.cursor := rfl
@[simp] theorem Scanner.deliver_pause (w : WorkingSet) (ch : ChanIx) (r : Reading) (c : Scanner) :
    (c.deliver w ch r).pause = c.pause := rfl
@[simp] theorem Scanner.deliver_records (w : WorkingSet) (ch : ChanIx) (r : Reading) (c : Scanner) :
    (c.deliver w ch r).records = c.records := rfl
@[simp] theorem Scanner.deliver_primed (w : WorkingSet) (ch : ChanIx) (r : Reading) (c : Scanner) :
    (c.deliver w ch r).primed = c.primed := rfl
@[simp] theorem Scanner.unbindLadder_state (k : LadderIx) (c : Scanner) : (c.unbindLadder k).state = c.state := rfl
@[simp] theorem Scanner.unbindLadder_cursor (k : LadderIx) (c : Scanner) : (c.unbindLadder k).cursor = c.cursor := rfl
@[simp] theorem Scanner.unbindLadder_pause (k : LadderIx) (c : Scanner) : (c.unbindLadder k).pause = c.pause := rfl
@[simp] theorem Scanner.unbindLadder_records (k : LadderIx) (c : Scanner) : (c.unbindLadder k).records = c.records := rfl
@[simp] theorem Scanner.unbindLadder_primed (k : LadderIx) (c : Scanner) : (c.unbindLadder k).primed = c.primed := rfl
@[simp] theorem Scanner.unbindLadder_toWatches (k : LadderIx) (c : Scanner) : (c.unbindLadder k).toWatches = c.toWatches := rfl
@[simp] theorem Scanner.unbindLadder_toLoads (k : LadderIx) (c : Scanner) : (c.unbindLadder k).toLoads = c.toLoads := rfl
@[simp] theorem Scanner.unbindWatch_state (w : WatchIx) (c : Scanner) : (c.unbindWatch w).state = c.state := rfl
@[simp] theorem Scanner.unbindWatch_cursor (w : WatchIx) (c : Scanner) : (c.unbindWatch w).cursor = c.cursor := rfl
@[simp] theorem Scanner.unbindWatch_pause (w : WatchIx) (c : Scanner) : (c.unbindWatch w).pause = c.pause := rfl
@[simp] theorem Scanner.unbindWatch_records (w : WatchIx) (c : Scanner) : (c.unbindWatch w).records = c.records := rfl
@[simp] theorem Scanner.unbindWatch_primed (w : WatchIx) (c : Scanner) : (c.unbindWatch w).primed = c.primed := rfl
@[simp] theorem Scanner.unbindWatch_toLadders (w : WatchIx) (c : Scanner) : (c.unbindWatch w).toLadders = c.toLadders := rfl
@[simp] theorem Scanner.unbindWatch_toLoads (w : WatchIx) (c : Scanner) : (c.unbindWatch w).toLoads = c.toLoads := rfl

/-! ### The moment of an expiry -/

@[simp] theorem State.reachExpiry_pending (left : Nat) (s : State) : (s.reachExpiry left).pending = s.pending :=
  State.elapse_pending _ s
@[simp] theorem State.reachExpiry_phase (left : Nat) (s : State) : (s.reachExpiry left).phase = s.phase :=
  State.elapse_phase _ s
@[simp] theorem State.reachExpiry_ws (left : Nat) (s : State) : (s.reachExpiry left).ws = s.ws :=
  State.elapse_ws _ s
@[simp] theorem State.reachExpiry_watches (left : Nat) (s : State) : (s.reachExpiry left).watches = s.watches :=
  State.elapse_watches _ s
@[simp] theorem State.reachExpiry_store (left : Nat) (s : State) : (s.reachExpiry left).store = s.store :=
  State.elapse_store _ s
@[simp] theorem State.reachExpiry_choices (left : Nat) (s : State) : (s.reachExpiry left).choices = s.choices + 1 := rfl
@[simp] theorem State.reachExpiry_seq_queue (left : Nat) (s : State) :
    (s.reachExpiry left).seq.queue = s.seq.queue := State.elapse_seq_queue _ s
@[simp] theorem State.reachExpiry_seq_counter (left : Nat) (s : State) :
    (s.reachExpiry left).seq.counter = s.seq.counter := State.elapse_seq_counter _ s
@[simp] theorem State.reachExpiry_seq_slot (left : Nat) (s : State) :
    (s.reachExpiry left).seq.slot = s.seq.slot := State.elapse_seq_slot _ s
@[simp] theorem State.reachExpiry_sev_ladders (left : Nat) (s : State) :
    (s.reachExpiry left).sev.ladders = s.sev.ladders := State.elapse_sev_ladders _ s
@[simp] theorem State.reachExpiry_sev_shedInput (left : Nat) (s : State) :
    (s.reachExpiry left).sev.shedInput = s.sev.shedInput := State.elapse_sev_shedInput _ s
@[simp] theorem State.reachExpiry_sev_hostFloor (left : Nat) (s : State) :
    (s.reachExpiry left).sev.hostFloor = s.sev.hostFloor := State.elapse_sev_hostFloor _ s
@[simp] theorem State.reachExpiry_sev_depth (left : Nat) (s : State) :
    (s.reachExpiry left).sev.depth = s.sev.depth := State.elapse_sev_depth _ s
@[simp] theorem State.reachExpiry_sev_contributor (left : Nat) (s : State) :
    (s.reachExpiry left).sev.contributor = s.sev.contributor := State.elapse_sev_contributor _ s
@[simp] theorem State.reachExpiry_scan_state (left : Nat) (s : State) :
    (s.reachExpiry left).scan.state = s.scan.state := State.elapse_scan_state _ s
@[simp] theorem State.reachExpiry_scan_cursor (left : Nat) (s : State) :
    (s.reachExpiry left).scan.cursor = s.scan.cursor := State.elapse_scan_cursor _ s
@[simp] theorem State.reachExpiry_scan_records (left : Nat) (s : State) :
    (s.reachExpiry left).scan.records = s.scan.records := State.elapse_scan_records _ s
@[simp] theorem State.reachExpiry_scan_primed (left : Nat) (s : State) :
    (s.reachExpiry left).scan.primed = s.scan.primed := State.elapse_scan_primed _ s
@[simp] theorem State.reachExpiry_scan_toLadders (left : Nat) (s : State) :
    (s.reachExpiry left).scan.toLadders = s.scan.toLadders := State.elapse_scan_toLadders _ s
@[simp] theorem State.reachExpiry_scan_toWatches (left : Nat) (s : State) :
    (s.reachExpiry left).scan.toWatches = s.scan.toWatches := State.elapse_scan_toWatches _ s
@[simp] theorem State.reachExpiry_scan_toLoads (left : Nat) (s : State) :
    (s.reachExpiry left).scan.toLoads = s.scan.toLoads := State.elapse_scan_toLoads _ s
@[simp] theorem State.reachExpiry_link_rxEnabled (left : Nat) (s : State) :
    (s.reachExpiry left).link.rxEnabled = s.link.rxEnabled := State.elapse_link_rxEnabled _ s
@[simp] theorem State.reachExpiry_link_framer (left : Nat) (s : State) :
    (s.reachExpiry left).link.framer = s.link.framer := State.elapse_link_framer _ s
@[simp] theorem State.reachExpiry_link_inbound (left : Nat) (s : State) :
    (s.reachExpiry left).link.inbound = s.link.inbound := State.elapse_link_inbound _ s
@[simp] theorem State.reachExpiry_link_replies (left : Nat) (s : State) :
    (s.reachExpiry left).link.replies = s.link.replies := State.elapse_link_replies _ s
@[simp] theorem State.reachExpiry_link_tx (left : Nat) (s : State) :
    (s.reachExpiry left).link.tx = s.link.tx := State.elapse_link_tx _ s
@[simp] theorem State.reachExpiry_link_stats (left : Nat) (s : State) :
    (s.reachExpiry left).link.stats = s.link.stats := State.elapse_link_stats _ s
@[simp] theorem State.reachExpiry_session_state (left : Nat) (s : State) :
    (s.reachExpiry left).session.state = s.session.state := State.elapse_session_state _ s
@[simp] theorem State.reachExpiry_session_cache (left : Nat) (s : State) :
    (s.reachExpiry left).session.cache = s.session.cache := State.elapse_session_cache _ s
@[simp] theorem State.reachExpiry_session_cause (left : Nat) (s : State) :
    (s.reachExpiry left).session.cause = s.session.cause := State.elapse_session_cause _ s
@[simp] theorem State.reachExpiry_session_taking (left : Nat) (s : State) :
    (s.reachExpiry left).session.taking = s.session.taking := State.elapse_session_taking _ s
@[simp] theorem State.reachExpiry_prof_slot0 (left : Nat) (s : State) :
    (s.reachExpiry left).prof.slot0 = s.prof.slot0 := State.elapse_prof_slot0 _ s
@[simp] theorem State.reachExpiry_prof_slot1 (left : Nat) (s : State) :
    (s.reachExpiry left).prof.slot1 = s.prof.slot1 := State.elapse_prof_slot1 _ s
@[simp] theorem State.reachExpiry_prof_known0 (left : Nat) (s : State) :
    (s.reachExpiry left).prof.known0 = s.prof.known0 := State.elapse_prof_known0 _ s
@[simp] theorem State.reachExpiry_prof_known1 (left : Nat) (s : State) :
    (s.reachExpiry left).prof.known1 = s.prof.known1 := State.elapse_prof_known1 _ s
@[simp] theorem State.reachExpiry_prof_active (left : Nat) (s : State) :
    (s.reachExpiry left).prof.active = s.prof.active := State.elapse_prof_active _ s
@[simp] theorem State.reachExpiry_prof_generation (left : Nat) (s : State) :
    (s.reachExpiry left).prof.generation = s.prof.generation := State.elapse_prof_generation _ s
@[simp] theorem State.reachExpiry_prof_dirty (left : Nat) (s : State) :
    (s.reachExpiry left).prof.dirty = s.prof.dirty := State.elapse_prof_dirty _ s
@[simp] theorem State.reachExpiry_prof_straps (left : Nat) (s : State) :
    (s.reachExpiry left).prof.straps = s.prof.straps := State.elapse_prof_straps _ s

end Sys2Proof.Machine
end

