-- ==== Sys2Proof/Laws/Ops.lean ====
section
/-! SUPPORT. For each shared operation, what it can do, said once: the lemmas later proofs cite in place of unfolding it. -/

namespace Sys2Proof.Machine

/-! ### Time (R1) -/

/-- While a reset is held no time passes. -/
theorem State.elapse_still {d : Nat} {s : State} (h : s.phase.timeRuns = false) : s.elapse d = s := by
  simp [State.elapse, h]

/-- From the end of a reset on the time base counts. -/
theorem State.elapse_timeBase {d : Nat} {s : State} (h : s.phase.timeRuns = true) :
    (s.elapse d).timeBase = s.timeBase + BitVec.ofNat 32 d := by
  simp [State.elapse, h]

/-- Each load record loses only time. -/
theorem State.elapse_load {d : Nat} {s : State} (h : s.phase.timeRuns = true) (n : LoadIx) :
    (s.elapse d).loads[n] = s.loads[n].elapse d := by
  simp [State.elapse, h]

/-- Each PG qualifier loses only time. -/
theorem State.elapse_pg {d : Nat} {s : State} (h : s.phase.timeRuns = true) (n : LoadIx) :
    (s.elapse d).quals.pg[n] = s.quals.pg[n].elapse d := by
  simp [State.elapse, h]

/-- No timer stands against no time. -/
theorem Timer.allows_zero (t : Timer) : t.allows 0 = true := by cases t <;> simp [Timer.allows]

/-- What a timer allows it allows in part. -/
theorem Timer.allows_mono {c d : Nat} (le : c ≤ d) {t : Timer} (h : t.allows d = true) : t.allows c = true := by
  cases t with
  | running left => simp_all [Timer.allows]; omega
  | stopped | overdue => simp_all [Timer.allows]

/-- So many ms may pass at once exactly where each timer of the part allows them (R1, R192). -/
theorem State.allows_iff (d : Nat) (s : State) :
    s.allows d = true ↔
      (∀ n : LoadIx, s.loads[n].settle.allows d = true ∧ s.loads[n].backoff.allows d = true ∧
          s.loads[n].cleanRun.allows d = true ∧ s.quals.pg[n].timer.allows d = true) ∧
        s.seq.gap.allows d = true ∧ s.sev.hold.allows d = true ∧ s.scan.pause.allows d = true ∧
        s.link.interbyte.allows d = true ∧ s.session.silence.allows d = true ∧ s.quals.kill.timer.allows d = true ∧
        s.quals.shed.timer.allows d = true ∧ (∀ v ∈ s.prof.save, v.timer.allows d = true) ∧
        s.startup.allowsExact d = true := by
  have all : ∀ n : LoadIx, n ∈ allLoads := by decide
  constructor
  · intro h
    simp only [State.allows, State.timers, Bool.and_eq_true, List.all_eq_true, List.mem_append, List.mem_flatMap] at h
    obtain ⟨h, start⟩ := h
    have loads := fun n t (ht : t ∈ _) => h t (.inl (.inl ⟨n, all n, ht⟩))
    have blocks := fun t (ht : t ∈ _) => h t (.inl (.inr ht))
    simp only [List.forall_mem_cons] at loads blocks
    exact ⟨fun n => ⟨(loads n).1, (loads n).2.1, (loads n).2.2.1, (loads n).2.2.2.1⟩, blocks.1, blocks.2.1, blocks.2.2.1,
      blocks.2.2.2.1, blocks.2.2.2.2.1, blocks.2.2.2.2.2.1, blocks.2.2.2.2.2.2.1,
      fun v hv => h _ (.inr (by simpa using ⟨v, hv, rfl⟩)), start⟩
  · rintro ⟨loads, gap, hold, pause, inter, silence, kill, shed, save, start⟩
    simp only [State.allows, State.timers, Bool.and_eq_true, List.all_eq_true, List.mem_append, List.mem_flatMap]
    refine ⟨?_, start⟩
    rintro t ((⟨n, -, ht⟩ | ht) | ht)
    · simp only [List.mem_cons, List.not_mem_nil, or_false] at ht
      obtain rfl | rfl | rfl | rfl := ht
      exacts [(loads n).1, (loads n).2.1, (loads n).2.2.1, (loads n).2.2.2]
    · simp only [List.mem_cons, List.not_mem_nil, or_false] at ht
      obtain rfl | rfl | rfl | rfl | rfl | rfl | rfl := ht <;> assumption
    · obtain ⟨v, hv, rfl⟩ := by simpa using ht
      exact save v hv

/-- A timer that is not running does not expire, and none passes another (R1): otherwise the moment is reached, the event
happens, and the transmitter chooses. -/
theorem State.whenDue_cases (t : Timer) (event : State → State) (s : State) :
    ((t = .stopped ∨ s.allows t.left = false) ∧ s.whenDue t event = s) ∨
      (t ≠ .stopped ∧ s.allows t.left = true ∧ s.whenDue t event = (event (s.reachExpiry t.left)).kick) := by
  cases due : s.allows t.left
  · exact .inl ⟨.inr rfl, by simp [State.whenDue, due]⟩
  · cases t with
    | stopped => exact .inl ⟨.inl rfl, rfl⟩
    | running left => exact .inr ⟨by simp, rfl, by simp_all [State.whenDue]⟩
    | overdue => exact .inr ⟨by simp, rfl, by simp_all [State.whenDue]⟩

/-- A timer that is stopped does not expire. -/
theorem State.whenDue_stopped (event : State → State) (s : State) : s.whenDue .stopped event = s := rfl

/-- The moment of an expiry differs from the state before it by time alone, its stated time, or one millisecond more where no
other timer is then too late (R1). -/
theorem State.reachExpiry_cases (left : Nat) (s : State) :
    s.reachExpiry left = { s.elapse left with choices := s.choices + 1 } ∨
      (s.allows (left + 1) = true ∧ s.reachExpiry left = { s.elapse (left + 1) with choices := s.choices + 1 }) := by
  cases late : Config.expiresLate s.choices <;> cases room : s.allows (left + 1)
  case true.true => exact .inr ⟨rfl, by simp [State.reachExpiry, late, room]⟩
  all_goals exact .inl (by simp [State.reachExpiry, late, room])

/-! ### The grant (R36 to R38) -/

/-- After a grant the start slot is held, so that no second grant is due. -/
@[simp] theorem State.grantHead_grantDue (e : QueueEntry) (rest : List QueueEntry) (s : State) :
    (s.grantHead e rest).grantDue = false := rfl

/-- The choice of the transmitter makes no grant due. -/
@[simp] theorem State.kick_grantDue (s : State) : s.kick.grantDue = s.grantDue := by simp [State.grantDue]

/-- A grant that is not due is not made; one that is due goes to the head of the queue. -/
theorem State.considerGrant_cases (s : State) :
    (s.grantDue = false ∧ s.considerGrant = s) ∨
      ∃ e rest, s.seq.queue = e :: rest ∧ s.grantDue = true ∧ s.considerGrant = s.grantHead e rest := by
  cases due : s.grantDue with
  | false => exact .inl ⟨rfl, by unfold State.considerGrant; split <;> simp [due]⟩
  | true =>
    cases q : s.seq.queue with
    | nil => simp [State.grantDue, q] at due
    | cons e rest => exact .inr ⟨e, rest, rfl, rfl, by simp [State.considerGrant, q, due]⟩

/-- Nothing is left due where a grant has been considered (R37). -/
@[simp] theorem State.considerGrant_grantDue (s : State) : s.considerGrant.grantDue = false := by
  obtain ⟨due, h⟩ | ⟨e, rest, -, -, h⟩ := s.considerGrant_cases <;> rw [h]
  exacts [due, rfl]

/-- As for a consideration, but with the transmitter's choice after a grant. -/
theorem State.takeGrant_cases (s : State) :
    (s.grantDue = false ∧ s.takeGrant = s) ∨
      ∃ e rest, s.seq.queue = e :: rest ∧ s.grantDue = true ∧ s.takeGrant = (s.grantHead e rest).kick := by
  obtain ⟨due, -⟩ | ⟨e, rest, q, due, h⟩ := s.considerGrant_cases
  · exact .inl ⟨due, by simp [State.takeGrant, due]⟩
  · exact .inr ⟨e, rest, q, due, by simp [State.takeGrant, due, h]⟩

/-- What comes after a due grant meets none (2-7). -/
@[simp] theorem State.takeGrant_grantDue (s : State) : s.takeGrant.grantDue = false := by
  obtain ⟨due, h⟩ | ⟨e, rest, -, -, h⟩ := s.takeGrant_cases <;> rw [h]
  exacts [due, by simp]

/-- Where no grant is due none is made. -/
theorem State.takeGrant_of_not_due {s : State} (h : s.grantDue = false) : s.takeGrant = s := by
  simp [State.takeGrant, h]

/-! ### The report store -/

/-- A report is posted whole; or it is dropped and, where a slot is FREE, told by a LOSS report at once; or it is dropped and
counted (R107, R109). -/
theorem Store.post_cases (time : DWord) (ps : List Payload) (st : Store) :
    (st.lost = 0 ∧ ps.length ≤ st.free ∧ st.post time ps = st.append time ps) ∨
      ((st.lost ≠ 0 ∨ st.free < ps.length) ∧ 0 < st.free ∧
        st.post time ps = { st.append time [.loss (bump st.lost)] with lost := 0 }) ∨
      ((st.lost ≠ 0 ∨ st.free < ps.length) ∧ st.free = 0 ∧ st.post time ps = { st with lost := bump st.lost }) := by
  have pos : 0 < bump st.lost := by unfold bump; omega
  unfold Store.post
  split
  case isTrue h => exact .inl ⟨h.1, h.2, rfl⟩
  case isFalse h =>
    have why : st.lost ≠ 0 ∨ st.free < ps.length := by omega
    by_cases free : 0 < st.free
    · refine .inr (.inl ⟨why, free, ?_⟩)
      have free' : 0 < ({ st with lost := bump st.lost } : Store).free := free
      simp [Store.settleLoss, pos, free', Store.append]
    · refine .inr (.inr ⟨why, by omega, ?_⟩)
      have free' : ¬ 0 < ({ st with lost := bump st.lost } : Store).free := free
      simp [Store.settleLoss, free']

/-- R109 does nothing without a loss or without a FREE slot, and otherwise posts the LOSS report. -/
theorem Store.settleLoss_cases (time : DWord) (st : Store) :
    ((st.lost = 0 ∨ st.free = 0) ∧ st.settleLoss time = st) ∨
      (0 < st.lost ∧ 0 < st.free ∧ st.settleLoss time = { st.append time [.loss st.lost] with lost := 0 }) := by
  unfold Store.settleLoss
  split
  case isTrue h => exact .inr ⟨h.1, h.2, rfl⟩
  case isFalse h => exact .inl ⟨by omega, rfl⟩

/-- One report of one payload: one record, FIRST and LAST. -/
theorem Store.append_one (time : DWord) (p : Payload) (st : Store) :
    st.append time [p] =
      { st with
        records := st.records ++
          [{ number := st.counter, first := true, last := true, resent := false, timestamp := time, payload := p,
             sent := false }]
        counter := st.counter + 1 } := rfl

/-- A posted report leaves credits as they are. -/
theorem Store.post_credits (time : DWord) (ps : List Payload) (st : Store) : (st.post time ps).credits = st.credits := by
  obtain ⟨-, -, h⟩ | ⟨-, -, h⟩ | ⟨-, -, h⟩ := st.post_cases time ps <;> rw [h] <;> rfl

/-- A posted report only adds records behind those there are. -/
theorem Store.post_records (time : DWord) (ps : List Payload) (st : Store) :
    ∃ new, (st.post time ps).records = st.records ++ new ∧ ∀ r ∈ new, r.sent = false := by
  have plain : ∀ (ps : List Payload) (first : Bool) (number : Word),
      ∀ r ∈ reportRecords time first number ps, r.sent = false := by
    intro ps
    induction ps with
    | nil => intro _ _ r h; simp [reportRecords] at h
    | cons p rest ih =>
      intro first number r h
      cases rest with
      | nil => simp [reportRecords] at h; rw [h]
      | cons q rest =>
        simp only [reportRecords, List.mem_cons] at h
        obtain rfl | h := h
        · rfl
        · exact ih _ _ r (by simpa [reportRecords] using h)
  obtain ⟨-, -, h⟩ | ⟨-, -, h⟩ | ⟨-, -, h⟩ := st.post_cases time ps
  · exact ⟨_, by rw [h]; rfl, plain _ _ _⟩
  · exact ⟨_, by rw [h]; rfl, plain _ _ _⟩
  · exact ⟨[], by rw [h]; simp, by simp⟩

/-- The records of a report are as many as its payloads. -/
theorem reportRecords_length (time : DWord) (ps : List Payload) :
    ∀ (first : Bool) (number : Word), (reportRecords time first number ps).length = ps.length := by
  induction ps with
  | nil => intro _ _; rfl
  | cons p rest ih =>
    intro first number
    cases rest with
    | nil => rfl
    | cons q rest => simp only [reportRecords, List.length_cons, ih]

/-- The oldest POSTED record, where there is one, stands behind SENT records only, and sending it marks it and no other. -/
theorem sendOldest_of_find {rs : List Record} {r : Record} (h : rs.find? (fun r => !r.sent) = some r) :
    ∃ older newer, rs = older ++ r :: newer ∧ (∀ x ∈ older, x.sent = true) ∧ r.sent = false ∧
      sendOldest rs = older ++ { r with sent := true } :: newer := by
  induction rs with
  | nil => simp at h
  | cons a rest ih =>
    cases sent : a.sent with
    | false =>
      simp [sent] at h
      subst h
      exact ⟨[], rest, rfl, by simp, sent, by simp [sendOldest, sent]⟩
    | true =>
      simp [sent] at h
      obtain ⟨older, newer, h1, h2, h3, h4⟩ := ih h
      exact ⟨a :: older, newer, by simp [h1], by simpa [sent] using h2, h3, by simp [sendOldest, sent, h4]⟩

/-- What an ACK names: the records up to the SENT one of the number (R116). -/
theorem upToNumber_some {number : Word} {rs front : List Record} (h : upToNumber number rs = some front) :
    ∃ older r newer, rs = older ++ r :: newer ∧ front = older ++ [r] ∧ r.sent = true ∧ r.number = number ∧
      ∀ x ∈ older, ¬ (x.sent = true ∧ x.number = number) := by
  induction rs generalizing front with
  | nil => simp [upToNumber] at h
  | cons a rest ih =>
    rw [upToNumber] at h
    split at h
    case isTrue found =>
      simp only [Option.some.injEq] at h
      exact ⟨[], a, rest, rfl, by simp [← h], found.1, found.2, by simp⟩
    case isFalse differs =>
      split at h
      case h_1 rs' found =>
        simp only [Option.some.injEq] at h
        obtain ⟨older, r, newer, h1, h2, h3, h4, h5⟩ := ih found
        exact ⟨a :: older, r, newer, by simp [h1], by simp [← h, h2], h3, h4, by simpa using ⟨by simpa using differs, by simpa using h5⟩⟩
      case h_2 => simp at h

/-- No SENT record has the number exactly where an ACK of it is refused. -/
theorem upToNumber_none {number : Word} {rs : List Record} :
    upToNumber number rs = none ↔ ∀ r ∈ rs, ¬ (r.sent = true ∧ r.number = number) := by
  induction rs with
  | nil => simp [upToNumber]
  | cons a rest ih =>
    rw [upToNumber]
    split
    case isTrue found => simpa using fun h => absurd found.2 (h found.1)
    case isFalse differs =>
      have differs' : a.sent = true → ¬ a.number = number := by simpa using differs
      split <;> rename_i found
      · have : ¬ ∀ r ∈ rest, ¬ (r.sent = true ∧ r.number = number) := by rw [← ih, found]; simp
        have that : ∃ x ∈ rest, x.sent = true ∧ x.number = number := by simpa using this
        simpa using fun _ => that
      · have := ih.mp found
        simpa using ⟨differs', by simpa using this⟩

/-- The front part that an ACK frees ends in a LAST record, and no LAST record stands behind it (R117). -/
theorem wholeReports_spec (rs : List Record) :
    ∃ freed kept, rs = freed ++ kept ∧ freed.length = wholeReports rs ∧ (∀ x ∈ kept, x.last = false) ∧
      ∀ x ∈ freed.getLast?, x.last = true := by
  refine ⟨(rs.reverse.dropWhile (fun r => !r.last)).reverse, (rs.reverse.takeWhile (fun r => !r.last)).reverse, ?_, ?_, ?_, ?_⟩
  · rw [← List.reverse_append, List.takeWhile_append_dropWhile, List.reverse_reverse]
  · simp [wholeReports]
  · intro x h
    have := List.mem_takeWhile_imp (List.mem_reverse.mp h)
    simpa using this
  · intro x h
    simp only [List.getLast?_reverse, Option.mem_def] at h
    have := List.head?_dropWhile_not (fun r : Record => !r.last) rs.reverse
    rw [h] at this
    simpa using this

/-! ### The transmitter (R135, R136) -/

/-- The four outcomes of the transmitter's choice. -/
theorem State.kick_cases (s : State) :
    (s.link.tx.isIdle = false ∧ s.kick = s) ∨
      (∃ r rest, s.link.tx = .idle ∧ s.link.replies = r :: rest ∧
        s.kick = { s with link := { s.link with tx := .reply r, replies := rest } }) ∨
      (s.link.tx = .idle ∧ s.link.replies = [] ∧ s.store.offers = true ∧ s.kick = s.startReport) ∨
      (s.link.tx = .idle ∧ s.link.replies = [] ∧ s.store.offers = false ∧ s.kick = s) := by
  unfold State.kick
  cases tx : s.link.tx with
  | reply r => exact .inl ⟨rfl, by simp [Transmitter.isIdle]⟩
  | report f => exact .inl ⟨rfl, by simp [Transmitter.isIdle]⟩
  | idle =>
    cases waiting : s.link.replies with
    | cons r rest => exact .inr (.inl ⟨r, rest, rfl, rfl, by simp [Transmitter.isIdle]⟩)
    | nil =>
      cases offers : s.store.offers
      · exact .inr (.inr (.inr ⟨rfl, rfl, rfl, by simp [Transmitter.isIdle]⟩))
      · exact .inr (.inr (.inl ⟨rfl, rfl, rfl, by simp [Transmitter.isIdle]⟩))

/-- An offered record that starts: it is the oldest POSTED one, and it spends a credit (R113). -/
theorem State.startReport_of_offers {s : State} (h : s.store.offers = true) :
    ∃ older r newer, 0 < s.store.credits ∧ s.store.records = older ++ r :: newer ∧ (∀ x ∈ older, x.sent = true) ∧
      r.sent = false ∧
      s.startReport =
        { s with
          link := { s.link with tx := .report (reportFrame r) }
          store := { s.store with
            records := older ++ { r with sent := true } :: newer, credits := s.store.credits - 1 } } := by
  simp only [Store.offers, Bool.and_eq_true, decide_eq_true_eq, List.any_eq_true] at h
  obtain ⟨credit, x, mem, posted⟩ := h
  obtain ⟨r, found⟩ : ∃ r, s.store.records.find? (fun r => !r.sent) = some r := by
    cases e : s.store.records.find? (fun r => !r.sent) with
    | some r => exact ⟨r, rfl⟩
    | none => exact absurd posted (List.find?_eq_none.mp e x mem)
  obtain ⟨older, newer, h1, h2, h3, h4⟩ := sendOldest_of_find found
  exact ⟨older, r, newer, credit, h1, h2, h3, by simp [State.startReport, found, h4]⟩

/-- The store offers nothing exactly without credits or without POSTED records. -/
theorem Store.offers_eq_false {st : Store} :
    st.offers = false ↔ st.credits = 0 ∨ ∀ r ∈ st.records, r.sent = true := by
  simp [Store.offers, Nat.pos_iff_ne_zero, Decidable.or_iff_not_imp_left]

/-- The free choice of R136: nothing meets, or a report starts first, or the reply goes first and the meeting is counted. -/
theorem State.offerBeforeReply_cases (s : State) :
    s.offerBeforeReply = s ∨ s.offerBeforeReply = { s with choices := s.choices + 1 } ∨
      (s.link.tx = .idle ∧ s.link.replies = [] ∧ s.store.offers = true ∧
        s.offerBeforeReply = { s.startReport with choices := s.choices + 1 }) := by
  unfold State.offerBeforeReply
  split
  case isFalse => exact .inl rfl
  case isTrue h =>
    simp only [Bool.and_eq_true, List.isEmpty_iff] at h
    split
    · refine .inr (.inr ⟨?_, h.1.2, h.2, rfl⟩)
      cases tx : s.link.tx <;> simp_all [Transmitter.isIdle]
    · exact .inr (.inl rfl)

/-! ### Taking a request (R141, R142) -/

/-- A frame is taken exactly when it is the oldest entry, of the row's kind, and taking is allowed. -/
theorem State.takes_eq_some {isKind : Byte → Bool} {s : State} {f : Frame} :
    s.takes isKind = some f ↔
      s.link.inbound.head? = some f ∧ isKind f.kind = true ∧ s.session.taking = true ∧ s.link.replies.length < 2 := by
  unfold State.takes State.canTake
  cases s.link.inbound with
  | nil => simp
  | cons g rest =>
    by_cases e : g = f
    · subst e; simp [and_comm, and_left_comm]
    · simp [e]

/-- A request comes after a grant that is due (2-7). -/
theorem State.takeRequest_after_grant (offers : Bool) (kind : Byte) (own : List Byte → State → Answer) (s : State) :
    s.takeRequest offers kind own = s.takeGrant.takeRequest offers kind own := by
  simp only [State.takeRequest, State.takeGrant_of_not_due s.takeGrant_grantDue]

/-- What a request row other than HELLO does where no grant is due: nothing, or NO_SESSION, or the stored reply of a repeat, or the
owning block's answer. -/
theorem State.takeRequest_cases (offers : Bool) (kind : Byte) (own : List Byte → State → Answer) {s : State}
    (settled : s.grantDue = false) :
    (s.takes (fun k => decide (k = kind)) = none ∧ s.takeRequest offers kind own = s) ∨
      ∃ f, s.takes (fun k => decide (k = kind)) = some f ∧
        ((s.session.state = .down ∧
            s.takeRequest offers kind own =
              (s.dropInbound.queueReply (mkFrame (replyKind f.kind) f.tag Status.noSession.bytes) false).kick) ∨
          (s.session.state ≠ .down ∧ ∃ e, findRepeat f s.session.cache = some e ∧
            s.takeRequest offers kind own = (s.dropInbound.queueReply e.reply false).kick) ∨
          (s.session.state ≠ .down ∧ findRepeat f s.session.cache = none ∧
            s.takeRequest offers kind own = s.dropInbound.executeRequest offers f own)) := by
  unfold State.takeRequest
  rw [State.takeGrant_of_not_due settled]
  dsimp only
  cases taken : s.takes (fun k => decide (k = kind)) with
  | none => exact .inl ⟨rfl, rfl⟩
  | some f =>
    refine .inr ⟨f, rfl, ?_⟩
    simp only [State.judgeRequest, State.dropInbound_session]
    by_cases down : s.session.state = .down
    · exact .inl ⟨down, by simp [down]⟩
    · cases rep : findRepeat f s.session.cache with
      | some e => exact .inr (.inl ⟨down, e, rfl, by simp [down]⟩)
      | none => exact .inr (.inr ⟨down, rfl, by simp [down]⟩)

/-- A repeat matches tag and received CRC of an entry (R152). -/
theorem findRepeat_some {f : Frame} {cache : List CacheEntry} {e : CacheEntry} (h : findRepeat f cache = some e) :
    e ∈ cache ∧ e.tag = f.tag ∧ e.crc = f.crc :=
  ⟨List.mem_of_find?_eq_some h, by simpa using List.find?_some h⟩

/-- A request is new where no entry matches both. -/
theorem findRepeat_none {f : Frame} {cache : List CacheEntry} :
    findRepeat f cache = none ↔ ∀ e ∈ cache, ¬ (e.tag = f.tag ∧ e.crc = f.crc) := by
  simp [findRepeat, List.find?_eq_none]

/-- The cache holds at most 4 entries after a write (R151). -/
theorem writeCache_length (e : CacheEntry) {cache : List CacheEntry} (h : cache.length ≤ 4) :
    (writeCache e cache).length ≤ 4 := by
  have := List.length_filter_le (fun x : CacheEntry => decide (x.tag ≠ e.tag)) cache
  unfold writeCache
  dsimp only
  split <;> simp only [List.length_append, List.length_drop, List.length_singleton] <;> omega

/-- The tags of the cache stay distinct (R151). -/
theorem writeCache_nodup (e : CacheEntry) {cache : List CacheEntry} (h : (cache.map (·.tag)).Nodup) :
    ((writeCache e cache).map (·.tag)).Nodup := by
  have others : ((cache.filter (fun x => decide (x.tag ≠ e.tag))).map (·.tag)).Nodup :=
    h.sublist (List.filter_sublist.map _)
  have fresh : ∀ l : List CacheEntry, List.Sublist l (cache.filter (fun x => decide (x.tag ≠ e.tag))) →
      ((l ++ [e]).map (·.tag)).Nodup := by
    intro l sub
    rw [List.map_append, List.nodup_append]
    refine ⟨others.sublist (sub.map _), by simp, ?_⟩
    intro t ht t' ht'
    obtain ⟨x, hx, rfl⟩ := List.mem_map.mp ht
    have := List.mem_filter.mp (sub.subset hx)
    simp at ht' this
    rw [ht']
    exact this.2
  unfold writeCache
  dsimp only
  split
  · exact fresh _ (List.Sublist.refl _)
  · exact fresh _ (List.drop_sublist _ _)

/-! ### Loads and the start queue -/

/-- The record of the load that moved. -/
theorem State.moveLoad_self (n : LoadIx) (new : LoadState) (cause : Cause) (s : State) :
    (s.moveLoad n new cause).loads[n] = s.movedLoad n new := by
  simp [State.moveLoad, State.post]

/-- The records of the other loads stand. -/
theorem State.moveLoad_other {n m : LoadIx} (h : m ≠ n) (new : LoadState) (cause : Cause) (s : State) :
    (s.moveLoad n new cause).loads[m] = s.loads[m] := by
  have : (n : Nat) ≠ (m : Nat) := fun e => h (Fin.ext e.symm)
  simp [State.moveLoad, State.post, this]

/-- The sequencer that a move leaves. -/
theorem State.moveLoad_seq (n : LoadIx) (new : LoadState) (cause : Cause) (s : State) :
    (s.moveLoad n new cause).seq = s.movedSeq n new := rfl

/-- The report of a move. -/
theorem State.moveLoad_store (n : LoadIx) (new : LoadState) (cause : Cause) (s : State) :
    (s.moveLoad n new cause).store = s.store.post s.timeBase [s.movedReport n new cause] := rfl

/-- A load that enters a state is in it. -/
theorem LoadRec.enter_state (c : LoadConfig) (cleanRun : Nat) (number : Word) (new : LoadState) (r : LoadRec) :
    (r.enter c cleanRun number new).state = new := by
  cases new <;> rfl

/-- Entering a state leaves demand, retries and trip cause. -/
theorem LoadRec.enter_keeps (c : LoadConfig) (cleanRun : Nat) (number : Word) (new : LoadState) (r : LoadRec) :
    (r.enter c cleanRun number new).demand = r.demand ∧ (r.enter c cleanRun number new).retries = r.retries ∧
      (r.enter c cleanRun number new).tripCause = r.tripCause := by
  cases new <;> exact ⟨rfl, rfl, rfl⟩

/-- Leaving a state leaves the state itself, demand, retries, trip cause and backoff timer. -/
theorem LoadRec.leave_keeps (r : LoadRec) :
    r.leave.state = r.state ∧ r.leave.demand = r.demand ∧ r.leave.retries = r.retries ∧
      r.leave.tripCause = r.tripCause ∧ r.leave.backoff = r.backoff := by
  unfold LoadRec.leave
  split <;> simp

/-- The load that moved is in its new state. -/
theorem State.moveLoad_state (n : LoadIx) (new : LoadState) (cause : Cause) (s : State) :
    (s.moveLoad n new cause).loads[n].state = new := by
  rw [State.moveLoad_self]; exact LoadRec.enter_state ..

/-- Demand OFF moves a load out of QUEUED, STARTING, ON and SHED, and is only recorded elsewhere (R9). -/
theorem State.demandOff_cases (cause : Cause) (n : LoadIx) (s : State) :
    ((s.loads[n].state = .queued ∨ s.loads[n].state = .starting ∨ s.loads[n].state = .on ∨ s.loads[n].state = .shed) ∧
        s.demandOff cause n = (s.setDemand n false).moveLoad n .off cause) ∨
      ((s.loads[n].state = .off ∨ s.loads[n].state = .tripped ∨ s.loads[n].state = .locked) ∧
        s.demandOff cause n = s.setDemand n false) := by
  unfold State.demandOff
  cases s.loads[n].state <;> simp

/-- Demand ON is refused under KILL and for an unfitted load, moves a load out of OFF, is recorded in TRIPPED, and changes nothing
elsewhere (R7, R8). -/
theorem State.demandOn_cases (cause : Cause) (n : LoadIx) (s : State) :
    ((s.quals.kill.qualified = true ∨ s.ws.loads[n].fitted = false) ∧ s.demandOn cause n = s) ∨
      (s.quals.kill.qualified = false ∧ s.ws.loads[n].fitted = true ∧
        ((s.loads[n].state = .off ∧
            s.demandOn cause n = (s.setDemand n true).moveLoad n (if s.isShed n then .shed else .queued) cause) ∨
          (s.loads[n].state = .tripped ∧ s.demandOn cause n = s.setDemand n true) ∨
          (s.loads[n].state ≠ .off ∧ s.loads[n].state ≠ .tripped ∧ s.demandOn cause n = s))) := by
  unfold State.demandOn
  cases s.quals.kill.qualified <;> cases s.ws.loads[n].fitted <;> cases s.loads[n].state <;> simp

/-- A load becomes shed out of QUEUED, STARTING and ON (R24). -/
theorem State.shedLoad_cases (n : LoadIx) (s : State) :
    ((s.loads[n].state = .queued ∨ s.loads[n].state = .starting ∨ s.loads[n].state = .on) ∧
        s.shedLoad n = s.moveLoad n .shed .shed) ∨
      (s.loads[n].state ≠ .queued ∧ s.loads[n].state ≠ .starting ∧ s.loads[n].state ≠ .on ∧ s.shedLoad n = s) := by
  unfold State.shedLoad
  cases s.loads[n].state <;> simp

/-- A load is restored out of SHED where it is not shed at the depth (R25). -/
theorem State.restoreLoad_cases (n : LoadIx) (s : State) :
    (s.loads[n].state = .shed ∧ s.isShed n = false ∧ s.restoreLoad n = s.moveLoad n .queued .restore) ∨
      ((s.loads[n].state ≠ .shed ∨ s.isShed n = true) ∧ s.restoreLoad n = s) := by
  unfold State.restoreLoad
  split
  case isTrue h => exact .inl ⟨h.1, h.2, rfl⟩
  case isFalse h => exact .inr ⟨by simpa [Decidable.imp_iff_not_or] using h, rfl⟩

/-- No load: nothing. -/
@[simp] theorem State.eachLoad_nil (op : LoadIx → State → State) (s : State) : s.eachLoad [] op = s := rfl

/-- The first load, then the others. -/
theorem State.eachLoad_cons (n : LoadIx) (ns : List LoadIx) (op : LoadIx → State → State) (s : State) :
    s.eachLoad (n :: ns) op = (op n s).eachLoad ns op := rfl

/-- What an operation keeps for each load it keeps for all of them. -/
theorem State.eachLoad_holds {P : State → Prop} {op : LoadIx → State → State} (keeps : ∀ n s, P s → P (op n s))
    (ns : List LoadIx) : ∀ s, P s → P (s.eachLoad ns op) := by
  induction ns with
  | nil => intro s h; exact h
  | cons n rest ih => intro s h; exact ih _ (keeps n s h)

/-- A joining entry passes those of lower or equal priority value, one by one (R33). -/
theorem joinQueue_cons (e x : QueueEntry) (rest : List QueueEntry) :
    joinQueue e (x :: rest) = if x.priority ≤ e.priority then x :: joinQueue e rest else e :: x :: rest := by
  by_cases le : x.priority ≤ e.priority <;> simp [joinQueue, le]

/-- A joining entry is added and no entry is lost. -/
theorem joinQueue_perm (e : QueueEntry) (q : List QueueEntry) : (joinQueue e q).Perm (e :: q) := by
  unfold joinQueue
  refine List.perm_middle.trans ?_
  rw [List.takeWhile_append_dropWhile]

/-- The queue stays ordered by priority value (R33). -/
theorem joinQueue_sorted (e : QueueEntry) {q : List QueueEntry} (h : (q.map (·.priority)).Pairwise (· ≤ ·)) :
    ((joinQueue e q).map (·.priority)).Pairwise (· ≤ ·) := by
  induction q with
  | nil => simp [joinQueue]
  | cons a rest ih =>
    simp only [List.map_cons, List.pairwise_cons] at h
    rw [joinQueue_cons]
    split
    case isTrue le =>
      simp only [List.map_cons, List.pairwise_cons]
      refine ⟨?_, ih h.2⟩
      intro p hp
      have := ((joinQueue_perm e rest).map (·.priority)).subset hp
      simp only [List.map_cons, List.mem_cons] at this
      obtain rfl | hp := this
      · exact le
      · exact h.1 p hp
    case isFalse lt =>
      simp only [List.map_cons, List.pairwise_cons, List.mem_cons]
      refine ⟨?_, h⟩
      rintro p (rfl | hp)
      · omega
      · have := h.1 p hp; omega

/-! ### Trips and readings at a load -/

/-- A trip counts a retry, notes its cause, and moves the load to TRIPPED, or to LOCKED where the budget is spent (R19). -/
theorem State.trip_cases (cause : TripCause) (n : LoadIx) (s : State) :
    (s.loads[n].retries + 1 ≤ s.ws.loads[n].budget ∧
        s.trip cause n =
          State.moveLoad n .tripped (.trip cause)
            (s.setLoad n { s.loads[n] with retries := s.loads[n].retries + 1, tripCause := some cause })) ∨
      (s.ws.loads[n].budget < s.loads[n].retries + 1 ∧
        s.trip cause n =
          State.moveLoad n .locked (.trip cause)
            (s.setLoad n { s.loads[n] with retries := s.loads[n].retries + 1, tripCause := some cause })) := by
  by_cases h : s.ws.loads[n].budget < s.loads[n].retries + 1
  · exact .inr ⟨h, by simp only [State.trip, if_pos h]⟩
  · exact .inl ⟨by omega, by simp only [State.trip, if_neg h]⟩

/-- A valid reading in STARTING or ON: no limit, within the limit, above it, or above it for the last time (R11, R13). -/
theorem State.judgeCurrent_cases (n : LoadIx) (limit : Nat) (cause : TripCause) (r : Int) (s : State) :
    (limit = 0 ∧ s.judgeCurrent n limit cause r = s.setLoad n { s.loads[n] with senseStreak := 0 }) ∨
      (limit ≠ 0 ∧ r ≤ limit ∧
        s.judgeCurrent n limit cause r = s.setLoad n { s.loads[n] with senseStreak := 0, overStreak := 0 }) ∨
      (limit ≠ 0 ∧ (limit : Int) < r ∧ s.loads[n].overStreak + 1 < s.ws.loads[n].confirm ∧
        s.judgeCurrent n limit cause r =
          s.setLoad n { s.loads[n] with senseStreak := 0, overStreak := s.loads[n].overStreak + 1 }) ∨
      (limit ≠ 0 ∧ (limit : Int) < r ∧ s.ws.loads[n].confirm ≤ s.loads[n].overStreak + 1 ∧
        s.judgeCurrent n limit cause r =
          State.trip cause n
            (s.setLoad n { s.loads[n] with senseStreak := 0, overStreak := s.loads[n].overStreak + 1 })) := by
  by_cases none : limit = 0
  · exact .inl ⟨none, by simp only [State.judgeCurrent, if_pos none]⟩
  · by_cases above : (limit : Int) < r
    · by_cases last : s.ws.loads[n].confirm ≤ s.loads[n].overStreak + 1
      · exact .inr (.inr (.inr ⟨none, above, last,
          by simp only [State.judgeCurrent, if_neg none, if_pos above, if_pos last]⟩))
      · exact .inr (.inr (.inl ⟨none, above, by omega,
          by simp only [State.judgeCurrent, if_neg none, if_pos above, if_neg last]⟩))
    · exact .inr (.inl ⟨none, by omega, by simp only [State.judgeCurrent, if_neg none, if_neg above]⟩)

/-- An invalid reading in STARTING or ON counts, and the eighth in a row trips (R18). -/
theorem State.countSenseFault_cases (n : LoadIx) (s : State) :
    (s.loads[n].senseStreak + 1 < 8 ∧
        s.countSenseFault n = s.setLoad n { s.loads[n] with senseStreak := s.loads[n].senseStreak + 1 }) ∨
      (8 ≤ s.loads[n].senseStreak + 1 ∧
        s.countSenseFault n =
          State.trip .senseFault n (s.setLoad n { s.loads[n] with senseStreak := s.loads[n].senseStreak + 1 })) := by
  by_cases h : 8 ≤ s.loads[n].senseStreak + 1
  · exact .inr ⟨h, by simp only [State.countSenseFault, if_pos h]⟩
  · exact .inl ⟨by omega, by simp only [State.countSenseFault, if_neg h]⟩

/-! ### The receiver and the qualifiers -/

/-- What the notice of a good frame does in each session state (R147, R149). -/
theorem State.noticeGoodFrame_cases (kind tag : Byte) (s : State) :
    (s.session.state = .down ∧ s.noticeGoodFrame kind tag = s) ∨
      (s.session.state = .up ∧ s.ws.globals.silenceTimeout = 0 ∧ s.noticeGoodFrame kind tag = s) ∨
      (s.session.state = .up ∧ s.ws.globals.silenceTimeout ≠ 0 ∧ s.noticeGoodFrame kind tag = s.restartSilence) ∨
      (s.session.state = .lost ∧
        s.noticeGoodFrame kind tag =
          State.restartSilence
            { s.post [.hostReturned kind tag] with
              session := { (s.post [.hostReturned kind tag]).session with state := .up } }) := by
  unfold State.noticeGoodFrame
  cases s.session.state with
  | down => exact .inl ⟨rfl, rfl⟩
  | up =>
    by_cases h : s.ws.globals.silenceTimeout = 0
    · exact .inr (.inl ⟨rfl, h, by simp [h]⟩)
    · exact .inr (.inr (.inl ⟨rfl, h, by simp [h]⟩))
  | lost => exact .inr (.inr (.inr ⟨rfl, rfl⟩))

/-- A good frame finds room in the inbound queue, or is dropped (R132). -/
theorem State.queueInbound_cases (f : Frame) (s : State) :
    (s.link.inbound.length < 2 ∧
        s.queueInbound f =
          State.countLink (fun c => { c with accepted := bump c.accepted })
            { s with link := { s.link with inbound := s.link.inbound ++ [f] } }) ∨
      (2 ≤ s.link.inbound.length ∧
        s.queueInbound f = s.countLink (fun c => { c with dropped := bump c.dropped })) := by
  by_cases h : s.link.inbound.length < 2
  · exact .inl ⟨h, by simp only [State.queueInbound, if_pos h]⟩
  · exact .inr ⟨by omega, by simp only [State.queueInbound, if_neg h]⟩

/-- The second CRC byte makes a good frame or a CRC error (R131). -/
theorem State.closeFrame_cases (f : Frame) (s : State) :
    (frameCrc f.kind f.tag f.body = f.crc ∧
        s.closeFrame f = ((s.setFramer .hunt).noticeGoodFrame f.kind f.tag).queueInbound f) ∨
      (frameCrc f.kind f.tag f.body ≠ f.crc ∧
        s.closeFrame f = (s.setFramer .hunt).countLink (fun c => { c with crc := bump c.crc })) := by
  by_cases h : frameCrc f.kind f.tag f.body = f.crc
  · exact .inl ⟨h, by simp only [State.closeFrame, if_pos h]⟩
  · exact .inr ⟨h, by simp only [State.closeFrame, if_neg h]⟩

/-- A pin's new level: the same as before, or taken with its qualification time begun or abandoned, or, while no qualifier runs,
only noted (R14, R196). -/
theorem Qualifier.pinTo_cases (runs activeHigh : Bool) (time : Nat) (level : PinLevel) (q : Qualifier) :
    (level = q.pin ∧ q.pinTo runs activeHigh time level = q) ∨
      (level ≠ q.pin ∧ runs = true ∧
        q.pinTo runs activeHigh time level =
          { q with
            pin := level
            timer := if (PinLevel.isHigh level == activeHigh) = q.qualified then .stopped else .running time }) ∨
      (level ≠ q.pin ∧ runs = false ∧ q.pinTo runs activeHigh time level = { q with pin := level }) := by
  by_cases same : level = q.pin
  · exact .inl ⟨same, by simp only [Qualifier.pinTo, if_pos same]⟩
  · cases runs
    · exact .inr (.inr ⟨same, rfl, by simp [Qualifier.pinTo, same]⟩)
    · exact .inr (.inl ⟨same, rfl, by simp [Qualifier.pinTo, Qualifier.start, same]⟩)

/-! ### Ladders and watches -/

/-- An enabled ladder counts a reading up, goes up, counts it down, goes down, or clears both streaks (R51 to R55). -/
theorem State.evaluateLadder_cases (k : LadderIx) (reading : Reading) (s : State) :
    let c := s.ws.ladders[k]
    let r := s.sev.ladders[k]
    (r.level < c.upLevel reading ∧ r.up + 1 < c.confirm ∧
        s.evaluateLadder k reading = s.setLadderRec k { r with up := r.up + 1, down := 0, last := reading }) ∨
      (r.level < c.upLevel reading ∧ c.confirm ≤ r.up + 1 ∧
        s.evaluateLadder k reading =
          s.changeLevel k (c.upLevel reading) reading { r with up := 0, down := 0, last := reading }) ∨
      (c.upLevel reading ≤ r.level ∧ c.callsDown r.level reading = true ∧ r.down + 1 < c.confirm ∧
        s.evaluateLadder k reading = s.setLadderRec k { r with up := 0, down := r.down + 1, last := reading }) ∨
      (c.upLevel reading ≤ r.level ∧ c.callsDown r.level reading = true ∧ c.confirm ≤ r.down + 1 ∧
        s.evaluateLadder k reading =
          s.changeLevel k (c.downLevel r.level reading) reading { r with up := 0, down := 0, last := reading }) ∨
      (c.upLevel reading ≤ r.level ∧ c.callsDown r.level reading = false ∧
        s.evaluateLadder k reading = s.setLadderRec k { r with up := 0, down := 0, last := reading }) := by
  intro c r
  by_cases up : r.level < c.upLevel reading
  · by_cases last : c.confirm ≤ r.up + 1
    · exact .inr (.inl ⟨up, last, by simp only [State.evaluateLadder]; rw [if_pos up, if_pos last]⟩)
    · exact .inl ⟨up, by omega, by simp only [State.evaluateLadder]; rw [if_pos up, if_neg last]⟩
  · cases down : c.callsDown r.level reading
    · exact .inr (.inr (.inr (.inr ⟨by omega, rfl, by
        simp only [State.evaluateLadder]; rw [if_neg up, if_neg (by rw [down]; simp)]⟩)))
    · by_cases last : c.confirm ≤ r.down + 1
      · exact .inr (.inr (.inr (.inl ⟨by omega, rfl, last, by
          simp only [State.evaluateLadder]; rw [if_neg up, if_pos down, if_pos last]⟩)))
      · exact .inr (.inr (.inl ⟨by omega, rfl, by omega, by
          simp only [State.evaluateLadder]; rw [if_neg up, if_pos down, if_neg last]⟩))

/-- The record of the watch that took a reading (R92 to R96). -/
theorem State.evaluateWatch_self (w : WatchIx) (reading : Reading) (s : State) :
    (s.evaluateWatch w reading).watches[w] =
      { state := s.ws.watches[w].nextState s.watches[w].state reading
        latched := s.watches[w].latched ||
          (watchReports s.ws.watches[w].mode s.watches[w].latched s.watches[w].state
              (s.ws.watches[w].nextState s.watches[w].state reading) &&
            decide (s.ws.watches[w].mode = .latched))
        last := reading } := by
  unfold State.evaluateWatch
  dsimp only
  split <;> simp [State.post]

/-- The other watches stand. -/
theorem State.evaluateWatch_other {w v : WatchIx} (h : v ≠ w) (reading : Reading) (s : State) :
    (s.evaluateWatch w reading).watches[v] = s.watches[v] := by
  have : (w : Nat) ≠ (v : Nat) := fun e => h (Fin.ext e.symm)
  unfold State.evaluateWatch
  dsimp only
  split <;> simp [State.post, this]

/-! ### The severity unit -/

/-- The depth is formed: it stands, rises or falls (R59 to R62). -/
theorem State.formDepth_cases (s : State) :
    (s.formedDepth = s.sev.depth ∧
        s.formDepth = { s with sev := { s.sev with contributor := s.contributorOf s.formedDepth } }) ∨
      (s.sev.depth < s.formedDepth ∧
        s.formDepth =
          State.eachLoad (newlyShed s.ws s.sev.depth s.ws s.formedDepth) State.shedLoad
            (State.post [.depth s.sev.depth s.formedDepth (s.contributorOf s.formedDepth)]
              { s with sev := { s.sev with
                depth := s.formedDepth, contributor := s.contributorOf s.formedDepth, hold := .stopped } })) ∨
      (s.formedDepth < s.sev.depth ∧
        s.formDepth =
          State.post [.depth s.sev.depth s.formedDepth (s.contributorOf s.formedDepth)]
            { s with sev := { s.sev with
              depth := s.formedDepth, contributor := s.contributorOf s.formedDepth,
              hold := .running (s.ws.globals.restoreHold * 1000) } }) := by
  obtain lt | eq | gt := Nat.lt_trichotomy s.formedDepth s.sev.depth
  · exact .inr (.inr ⟨lt, by simp [State.formDepth, Nat.ne_of_lt lt, Nat.lt_asymm lt]⟩)
  · exact .inl ⟨eq, by simp [State.formDepth, eq]⟩
  · exact .inr (.inl ⟨gt, by simp [State.formDepth, Nat.ne_of_gt gt, gt]⟩)

/-- The highest k from 1 to n of which p holds, or 0. -/
theorem highest_spec (p : Nat → Bool) (n : Nat) :
    highest p n ≤ n ∧ (highest p n ≠ 0 → p (highest p n) = true) ∧ ∀ k, highest p n < k → k ≤ n → p k = false := by
  induction n with
  | zero => exact ⟨Nat.le_refl 0, by simp [highest], by intro k h1 h2; simp [highest] at h1; omega⟩
  | succ n ih =>
    rw [highest]
    split
    case isTrue h => exact ⟨Nat.le_refl _, fun _ => h, by intro k h1 h2; omega⟩
    case isFalse h =>
      refine ⟨by omega, ih.2.1, ?_⟩
      intro k h1 h2
      by_cases e : k = n + 1
      · subst e; simpa using h
      · exact ih.2.2 k h1 (by omega)

/-! ### The scanner -/

/-- A ladder takes a reading where it was bound to its channel at the arrival and still is (R83); any other stands. -/
theorem State.ladderTakes_cases (d : Delivery (List LadderIx)) (k : LadderIx) (s : State) :
    ((k ∉ d.bound ∨ s.ws.ladders[k].enabled = false ∨ s.ws.ladders[k].source ≠ d.channel) ∧ s.ladderTakes d k = s) ∨
      (k ∈ d.bound ∧ s.ws.ladders[k].enabled = true ∧ s.ws.ladders[k].source = d.channel ∧
        s.ladderTakes d k = s.evaluateLadder k d.reading) := by
  by_cases h : k ∈ d.bound ∧ s.ws.ladders[k].enabled = true ∧ s.ws.ladders[k].source = d.channel
  · exact .inr ⟨h.1, h.2.1, h.2.2, if_pos h⟩
  · refine .inl ⟨?_, if_neg h⟩
    by_contra c
    simp only [not_or, Bool.not_eq_false, not_not] at c
    exact h c

/-- A watch takes a reading where it was bound to its channel at the arrival and still is (R83); any other stands. -/
theorem State.watchTakes_cases (d : Delivery (List WatchIx)) (w : WatchIx) (s : State) :
    ((w ∉ d.bound ∨ s.ws.watches[w].mode = .off ∨ s.ws.watches[w].channel ≠ d.channel) ∧ s.watchTakes d w = s) ∨
      (w ∈ d.bound ∧ s.ws.watches[w].mode ≠ .off ∧ s.ws.watches[w].channel = d.channel ∧
        s.watchTakes d w = s.evaluateWatch w d.reading) := by
  by_cases h : w ∈ d.bound ∧ s.ws.watches[w].mode ≠ .off ∧ s.ws.watches[w].channel = d.channel
  · exact .inr ⟨h.1, h.2.1, h.2.2, if_pos h⟩
  · refine .inl ⟨?_, if_neg h⟩
    by_contra c
    simp only [not_or, not_not] at c
    exact h ⟨c.1, c.2.1, c.2.2⟩

/-- A ladder whose binding is undone waits for no reading (R83). -/
theorem Scanner.unbindLadder_free (k : LadderIx) (c : Scanner) : ∀ d ∈ (c.unbindLadder k).toLadders, k ∉ d.bound := by
  simp [Scanner.unbindLadder]

/-- A watch whose binding is undone waits for no reading (R83). -/
theorem Scanner.unbindWatch_free (w : WatchIx) (c : Scanner) : ∀ d ∈ (c.unbindWatch w).toWatches, w ∉ d.bound := by
  simp [Scanner.unbindWatch]

/-- Entry i of the list is converted (R76). -/
theorem Scanner.begin_of_lt {list : List ChanIx} {i : Nat} (h : i < list.length) (c : Scanner) :
    c.begin list i = { c with state := .converting (list[i]'h) false, cursor := i } := by
  simp [Scanner.begin, List.getElem?_eq_getElem h]

/-- What follows the end of a conversion (R76, R86). -/
theorem Scanner.next_cases (list : List ChanIx) (pause : Nat) (restart : Bool) (c : Scanner) :
    (restart = true ∧ c.next list pause restart = c.begin list 0) ∨
      (restart = false ∧ c.cursor + 1 < list.length ∧ c.next list pause restart = c.begin list (c.cursor + 1)) ∨
      (restart = false ∧ list.length ≤ c.cursor + 1 ∧ pause = 0 ∧ c.next list pause restart = c.begin list 0) ∨
      (restart = false ∧ list.length ≤ c.cursor + 1 ∧ 0 < pause ∧
        c.next list pause restart = { c with state := .paused, cursor := 0, pause := .running pause }) := by
  cases restart with
  | true => exact .inl ⟨rfl, by simp [Scanner.next]⟩
  | false =>
    by_cases more : c.cursor + 1 < list.length
    · exact .inr (.inl ⟨rfl, more, by simp [Scanner.next, more]⟩)
    · by_cases none : pause = 0
      · exact .inr (.inr (.inl ⟨rfl, by omega, none, by simp [Scanner.next, more, none]⟩))
      · exact .inr (.inr (.inr ⟨rfl, by omega, by omega, by simp [Scanner.next, more, none]⟩))

/-! ### Resets -/

/-- A reset keeps the nonvolatile slots. -/
theorem State.takeReset_slots (phase : Phase) (cause : ResetCause) (s : State) :
    (s.takeReset phase cause).prof.slot0 = s.prof.slot0 ∧ (s.takeReset phase cause).prof.slot1 = s.prof.slot1 :=
  ⟨rfl, rfl⟩

/-- A counter stays at 65535. -/
theorem bump_eq (n : Nat) (h : n ≤ 65535) : bump n = if n < 65535 then n + 1 else 65535 := by
  unfold bump; split <;> omega

end Sys2Proof.Machine
end

