-- ==== Sys2Proof/Laws/PerInstr.lean ====
section
/-! SUPPORT. A statement about each command as syntax, one lemma per constructor. -/

namespace Sys2Proof.Laws.RowOfTable

open Sys2Proof.Machine

/-- The command has its row in the table of 52, and where its row is that of an assigned request kind (R204), a queued frame of
that kind is taken by this command and no other. -/
def Statement (i : Instr) : Prop := i.row < 52 ∧ ∀ kind ∈ assignedKinds[i.row]?, requestOf kind = i

theorem hello : Statement .hello := ⟨by decide, by decide⟩
theorem grant : Statement .grant := ⟨by decide, by decide⟩
theorem ack : Statement .ack := ⟨by decide, by decide⟩
theorem resend : Statement .resend := ⟨by decide, by decide⟩
theorem snapshot : Statement .snapshot := ⟨by decide, by decide⟩
theorem demand : Statement .demand := ⟨by decide, by decide⟩
theorem clear : Statement .clear := ⟨by decide, by decide⟩
theorem setLoad : Statement .setLoad := ⟨by decide, by decide⟩
theorem readLoad : Statement .readLoad := ⟨by decide, by decide⟩
theorem forceLevel : Statement .forceLevel := ⟨by decide, by decide⟩
theorem setLadder : Statement .setLadder := ⟨by decide, by decide⟩
theorem setCutoff : Statement .setCutoff := ⟨by decide, by decide⟩
theorem readSeverity : Statement .readSeverity := ⟨by decide, by decide⟩
theorem setScan : Statement .setScan := ⟨by decide, by decide⟩
theorem setChannel : Statement .setChannel := ⟨by decide, by decide⟩
theorem readChannels : Statement .readChannels := ⟨by decide, by decide⟩
theorem setWatch : Statement .setWatch := ⟨by decide, by decide⟩
theorem ackWatch : Statement .ackWatch := ⟨by decide, by decide⟩
theorem readWatch : Statement .readWatch := ⟨by decide, by decide⟩
theorem setGlobals : Statement .setGlobals := ⟨by decide, by decide⟩
theorem readSystem : Statement .readSystem := ⟨by decide, by decide⟩
theorem readLink : Statement .readLink := ⟨by decide, by decide⟩
theorem save : Statement .save := ⟨by decide, by decide⟩
theorem reset : Statement .reset := ⟨by decide, by decide⟩
theorem badKindFrame : Statement .badKindFrame := ⟨by decide, by decide⟩
theorem byteArrival (byte : Byte) (stopError : Bool) : Statement (.byteArrival byte stopError) :=
  ⟨by simp [Instr.row], by simp [Instr.row, assignedKinds]⟩
theorem interbyteTimeout : Statement .interbyteTimeout := ⟨by decide, by decide⟩
theorem lineFrees : Statement .lineFrees := ⟨by decide, by decide⟩
theorem powerOnReset : Statement .powerOnReset := ⟨by decide, by decide⟩
theorem pinReset : Statement .pinReset := ⟨by decide, by decide⟩
theorem resetEnd (br1 br0 asInh : PinLevel) : Statement (.resetEnd br1 br0 asInh) :=
  ⟨by simp [Instr.row], by simp [Instr.row, assignedKinds]⟩
theorem profileSelection (asInh : PinLevel) : Statement (.profileSelection asInh) :=
  ⟨by simp [Instr.row], by simp [Instr.row, assignedKinds]⟩
theorem readingArrival (raw : Nat) : Statement (.readingArrival raw) :=
  ⟨by simp [Instr.row], by simp [Instr.row, assignedKinds]⟩
theorem pauseExpiry : Statement .pauseExpiry := ⟨by decide, by decide⟩
theorem ladderEvaluation : Statement .ladderEvaluation := ⟨by decide, by decide⟩
theorem watchEvaluation : Statement .watchEvaluation := ⟨by decide, by decide⟩
theorem loadReading : Statement .loadReading := ⟨by decide, by decide⟩
theorem startGrant : Statement .startGrant := ⟨by decide, by decide⟩
theorem settleExpiry (n : LoadIx) : Statement (.settleExpiry n) :=
  ⟨by simp [Instr.row], by simp [Instr.row, assignedKinds]⟩
theorem cleanRunExpiry (n : LoadIx) : Statement (.cleanRunExpiry n) :=
  ⟨by simp [Instr.row], by simp [Instr.row, assignedKinds]⟩
theorem backoffExpiry (n : LoadIx) : Statement (.backoffExpiry n) :=
  ⟨by simp [Instr.row], by simp [Instr.row, assignedKinds]⟩
theorem gapExpiry : Statement .gapExpiry := ⟨by decide, by decide⟩
theorem restoreHoldExpiry : Statement .restoreHoldExpiry := ⟨by decide, by decide⟩
theorem silenceExpiry : Statement .silenceExpiry := ⟨by decide, by decide⟩
theorem saveEnd (verified : Bool) : Statement (.saveEnd verified) :=
  ⟨by simp [Instr.row], by simp [Instr.row, assignedKinds]⟩
theorem pgPinChange (n : LoadIx) (level : PinLevel) : Statement (.pgPinChange n level) :=
  ⟨by simp [Instr.row], by simp [Instr.row, assignedKinds]⟩
theorem pgQualified (n : LoadIx) : Statement (.pgQualified n) :=
  ⟨by simp [Instr.row], by simp [Instr.row, assignedKinds]⟩
theorem killPinChange (level : PinLevel) : Statement (.killPinChange level) :=
  ⟨by simp [Instr.row], by simp [Instr.row, assignedKinds]⟩
theorem killQualified : Statement .killQualified := ⟨by decide, by decide⟩
theorem shedPinChange (level : PinLevel) : Statement (.shedPinChange level) :=
  ⟨by simp [Instr.row], by simp [Instr.row, assignedKinds]⟩
theorem shedQualified : Statement .shedQualified := ⟨by decide, by decide⟩
theorem powerLoss : Statement .powerLoss := ⟨by decide, by decide⟩

end Sys2Proof.Laws.RowOfTable
end

