-- ==== Sys2Proof/Tests/Slice0.lean ====
section
/-! SUPPORT. Tests: ill-formed commands and bodies refused, single steps against the manual's worked figures, and for every
obligation with hypotheses a state that meets them. Every expected value is the manual's. -/

namespace Sys2Proof.Tests

-- One theorem after the other: each waits for the kernel, and many waiting threads do not fit in memory.
set_option Elab.async false

open Sys2Proof.Machine Sys2Proof.Safety Sys2Proof.Claims

/-! ### States the tests start from -/

/-- A part that runs from the factory profile, session UP, nothing queued. -/
def up : State :=
  { State.reset with
    phase := .running
    scan := { Scanner.reset with state := .converting 0 false }
    link := { Link.reset with rxEnabled := true }
    session := { Session.reset .powerOn with state := .up, taking := true }
    prof := { Profile.reset with known0 := some .blank, known1 := some .blank } }

/-- The same part before step 2 of start-up ends. -/
def starting : State :=
  { State.reset with
    phase := .selecting, startup := .running 30, link := { Link.reset with rxEnabled := true } }

/-- s with load n fitted and this record. -/
def withLoad (n : LoadIx) (r : LoadRec) (c : LoadConfig) (s : State) : State :=
  { s with loads := s.loads.set n r, ws := { s.ws with loads := s.ws.loads.set n { c with fitted := true } } }

/-- A record in this state with demand ON. -/
def inState (st : LoadState) : LoadRec := { LoadRec.reset with state := st, demand := true }

/-- s with this request, tag 01h, alone in its inbound queue. -/
def asked (kind : Byte) (body : List Byte) (s : State) : State :=
  { s with link := { s.link with inbound := [mkFrame kind 0x01 body] } }

/-- What the host reads of the outcome: its state, or the reset state where there is none. -/
def after (o : Host.Outcome State Fault Refusal) : State :=
  match o with
  | .next t => t
  | .fault _ => State.reset
  | .refused _ => State.reset

/-- The body of the reply on the line. -/
def sending (s : State) : Option (List Byte) :=
  match s.link.tx with
  | .reply r => some r.frame.body
  | .idle => none
  | .report _ => none

/-- A record of one report, in the state SENT or POSTED. -/
def single (number : Word) (sent : Bool) : Record :=
  { number := number, first := true, last := true, resent := false, timestamp := 0, payload := .kill true, sent := sent }

/-- A record of a SNAPSHOT. -/
def part (number : Word) (first last sent : Bool) : Record :=
  { number := number, first := first, last := last, resent := false, timestamp := 0,
    payload := .snapshot (List.replicate 8 none), sent := sent }

/-! ### Well-formed commands, and bodies that the checks refuse -/

theorem test_raw_value_above_4095_is_ill_formed :
    (Instr.readingArrival 4096).wellFormed = false ∧ (Instr.readingArrival 4095).wellFormed = true := by decide

theorem test_load_body_checks : -- R165: priority 8, settle 0, confirm 9, budget 16, backoff 0, feedback 2, orphan 3, fitted 2
    LoadConfig.ofBody (0x00 :: LoadConfig.factory.bytes) = some LoadConfig.factory ∧
      ∀ p ∈ ([(1, 2), (2, 8), (3, 0), (8, 9), (9, 16), (10, 0), (11, 2), (12, 3), (13, 2)] : List (Nat × Byte)),
        LoadConfig.ofBody ((0x00#8 :: LoadConfig.factory.bytes).set p.1 p.2) = none := by decide

theorem test_ladder_body_checks : -- R69: enabled 2, channel 24, direction 2, top 0 and 5, confirm 9, fault above top
    LadderConfig.ofBody (0x00 :: LadderConfig.factory.bytes) = some LadderConfig.factory ∧
      ∀ p ∈ ([(1, 2), (2, 24), (3, 2), (4, 0), (4, 5), (5, 9), (6, 2), (15, 0)] : List (Nat × Byte)),
        LadderConfig.ofBody ((0x00#8 :: LadderConfig.factory.bytes).set p.1 p.2) = none := by decide

theorem test_watch_body_checks : -- R99: mode 3, channel 24, high at low, hysteresis at the width
    WatchConfig.ofBody (0x00 :: watchBytes WatchConfig.factory) = some WatchConfig.factory ∧
      ∀ p ∈ ([(1, 3), (2, 24), (5, 0), (7, 1)] : List (Nat × Byte)),
        WatchConfig.ofBody ((0x00#8 :: watchBytes WatchConfig.factory).set p.1 p.2) = none := by decide

theorem test_globals_checks : -- R177: clean run 0, ceiling 5, hold 601, shed level 5
    Globals.ofBody (globalsBytes Globals.factory) = some Globals.factory ∧
      ∀ g ∈ [{ Globals.factory with cleanRun := 0 }, { Globals.factory with startCeiling := 5 },
          { Globals.factory with restoreHold := 601 }, { Globals.factory with shedInputLevel := 5 }],
        Globals.ofBody (globalsBytes g) = none := by decide

theorem test_scan_and_cutoff_checks : -- R85, R64
    scanOfBody [0x01, 0xFA, 0x17] = some ([23], 250) ∧ scanOfBody [0x01, 0xFB, 0x17] = none ∧
      scanOfBody [0x01, 0x00, 0x18] = none ∧ scanOfBody [0x00, 0x00] = none ∧
      cutoffOfBody [8, 6, 4, 1] = some #v[8, 6, 4, 1] ∧ cutoffOfBody [8, 6, 7, 1] = none ∧
      cutoffOfBody [9, 6, 4, 1] = none ∧ cutoffOfBody [8, 6, 4, 0] = none := by decide

theorem test_no_row_has_bits : decodeTableWord 8 0x01 = none ∧ State.reset.withFetchWord 8 0x01 = State.reset := by
  decide +kernel

/-! ### Bytes and the CRC (R199, R200, R201) -/

theorem test_crc_of_123456789 : crc16 [0x31, 0x32, 0x33, 0x34, 0x35, 0x36, 0x37, 0x38, 0x39] = 0x29B1#16 := by decide +kernel

theorem test_hello_frame : (mkFrame 0x01 0x01 []).bytes = [0xC3, 0x00, 0x01, 0x01, 0x8C, 0xEF] := by decide +kernel

theorem test_record_bytes : -- R201, R202: a LOAD_STATE of L3, ON to TRIPPED, OVERCURRENT, 1 retry, 5300 mA
    ({ (single 0x0102 true) with
        resent := true
        timestamp := 2019
        payload := .loadState 3 .on .tripped (.trip .overcurrent) 1 (some 5300) } : Record).bytes =
      [0x02, 0x01, 0x03, 0x07, 0xE3, 0x07, 0x00, 0x00, 0x03, 0x03, 0x05, 0x04, 0x01, 0x00, 0xB4, 0x14] ++
        List.replicate 8 0x00 := by decide

/-! ### Scaling (4-9) and the scanner (R76, R79) -/

theorem test_scaling_figures :
    (({ gain := 5001, offset := 0, faultDetect := false } : ChannelConfig).scale 4095 = 19999) ∧
      (({ gain := 8252, offset := 0, faultDetect := true } : ChannelConfig).reading 3000 = some 24175) ∧
      (({ gain := 8252, offset := 0, faultDetect := true } : ChannelConfig).reading 4094 = none) ∧
      (({ gain := 825, offset := -500, faultDetect := false } : ChannelConfig).scale 400 = -178) ∧
      (({ gain := 65535, offset := 20000, faultDetect := false } : ChannelConfig).scale 200 = 32767) := by decide

theorem test_last_entry_pauses : -- R76: entry 23 of the factory list, pause 10 ms
    (let t := after (exec (.readingArrival 7) { up with scan := { up.scan with state := .converting 23 false, cursor := 23 } })
     (t.scan.state, t.scan.pause, t.scan.cursor, t.scan.records[23].raw)) = (.paused, .running 10, 0, 7) := by
  decide +kernel

theorem test_set_scan_mid_cycle : -- 4: SET SCAN at 0.5 ms; the conversion in progress goes on, the cursor is 0
    (let t := after (exec .setScan (asked 0x20 [0x03, 0x00, 0x10, 0x13, 0x14]
        { up with scan := { up.scan with state := .converting 16 false, cursor := 2 } }))
     (t.scan.state, t.scan.cursor, t.ws.scanList, sending t)) =
      (.converting 16 true, 0, [16, 19, 20], some [0x00]) := by decide +kernel

/-! ### Loads (1-12) and the start queue (2-8) -/

/-- L3 of 1-12. -/
def l3 : LoadConfig :=
  { LoadConfig.factory with priority := 2, settle := 10, inrush := 9000, runLimit := 4000, confirm := 2, budget := 3, backoff := 5 }

/-- A reading of I3 that has reached the load controller. -/
def i3 (v : Reading) (s : State) : State := { s with scan := { s.scan with toLoads := [{ channel := 3, reading := v, bound := 3 }] } }

theorem test_second_overcurrent_trips : -- 2.019 s
    (let t := after (exec .loadReading (i3 (some 5300) (withLoad 3 { inState .on with overStreak := 1, cleanRun := .running 28000 } l3 up)))
     t.loads[3]) =
      { LoadRec.reset with
        state := .tripped, demand := true, retries := 1, tripCause := some .overcurrent, backoff := .running 5000 } := by
  decide +kernel

theorem test_low_reading_clears_the_streak : -- 9.016 s
    (after (exec .loadReading (i3 (some 3900) (withLoad 3 { inState .on with overStreak := 1 } l3 up)))).loads[3].overStreak = 0 := by
  decide +kernel

theorem test_fourth_trip_locks : -- 70.005 s
    (let t := after (exec .loadReading (i3 (some 4100) (withLoad 3 { inState .on with overStreak := 1, retries := 3 } l3 up)))
     (t.loads[3].state, t.loads[3].retries, t.loads[3].backoff)) = (.locked, 4, .stopped) := by decide +kernel

theorem test_settle_expiry_goes_on : -- 0.100 s
    (let t := after (exec (.settleExpiry 3) { withLoad 3 { inState .starting with settle := .running 0 } l3 up with
        seq := { Sequencer.reset with slot := some 3 } })
     (t.loads[3].state, t.loads[3].cleanRun, t.seq.slot, t.seq.gap)) = (.on, .running 30000, none, .running 200) := by
  decide +kernel

theorem test_three_demands_queue_in_order : -- 2-8: L5, L8, L11 of priorities 2, 0, 2 from entry counter 40
    (let c := fun p => { LoadConfig.factory with priority := p }
     let s := withLoad 5 LoadRec.reset (c 2) (withLoad 8 LoadRec.reset (c 0) (withLoad 11 LoadRec.reset (c 2)
       { up with seq := { Sequencer.reset with counter := 40 } }))
     (after (exec .demand (asked 0x10 [0x20, 0x09, 0x01] s))).seq) =
      { Sequencer.reset with
        counter := 43
        queue := [{ load := 8, priority := 0, number := 41 }, { load := 5, priority := 2, number := 40 },
          { load := 11, priority := 2, number := 42 }] } := by decide +kernel

/-- s with this start sequencer. -/
def withSeq (q : Sequencer) (s : State) : State := { s with seq := q }

/-- A part whose head of the queue, L3, is to be granted. -/
def grantable : State :=
  { withLoad 3 { inState .queued with entry := some 40 } l3 up with
    seq := { Sequencer.reset with queue := [{ load := 3, priority := 2, number := 40 }], counter := 41 }
    scan := { up.scan with primed := true }
    sev := { Severity.reset with depth := 1, hostFloor := 1, contributor := some .hostFloor } }

theorem test_gap_expiry_grants_the_head : -- R45, 2-8: the gap's expiry itself sends the head to STARTING
    (let t := after (exec .gapExpiry (withSeq { grantable.seq with gap := .running 0 } grantable))
     (t.loads[3].state, t.seq.slot, t.seq.queue)) = (.starting, some 3, []) := by decide +kernel

theorem test_gap_0_grants_at_the_release : -- R42: L9 leaves STARTING, and L3, the head, enters it
    (let s := withLoad 9 { inState .starting with settle := .running 0 } l3 { grantable with
        seq := { grantable.seq with slot := some 9 }
        ws := { grantable.ws with globals := { Globals.factory with startGap := 0 } } }
     let t := after (exec (.settleExpiry 9) s)
     (t.loads[9].state, t.loads[3].state, t.seq.slot, t.seq.gap)) = (.on, .starting, some 3, .stopped) := by decide +kernel

theorem test_set_globals_grants_under_the_new_ceiling : -- R177, step 3: a ceiling of 2 at depth 2
    (let t := after (exec .setGlobals (asked 0x28 (globalsBytes { Globals.factory with startCeiling := 2 })
        { grantable with sev := { Severity.reset with depth := 2, hostFloor := 2, contributor := some .hostFloor } }))
     (t.loads[3].state, sending t)) = (.starting, some [0x00]) := by decide +kernel

theorem test_a_request_comes_after_a_due_grant : -- 2-7: READ SYSTEM shows the slot held by L3
    ((sending (after (exec .readSystem (asked 0x29 [] grantable)))).map (·.take 3)) = some [0x00, 0x00, 0x03] := by
  decide +kernel

theorem test_an_expiry_passes_no_other_timer : -- R1: 5 s of backoff do not pass a start gap of 200 ms
    (let s := withSeq { Sequencer.reset with gap := .running 200 } (withLoad 3 { inState .tripped with backoff := .running 5000 } l3 up)
     after (exec (.backoffExpiry 3) s) = s) := by decide +kernel

theorem test_partial_demand : -- 9-8, step 4: L1 fitted, L4 LOCKED, L6 unfitted, mask 0052h
    (let s := withLoad 1 LoadRec.reset LoadConfig.factory (withLoad 4 (inState .locked) LoadConfig.factory up)
     sending (after (exec .demand (asked 0x10 [0x52, 0x00, 0x01] s)))) = some [0x08, 0x02, 0x00, 0x50, 0x00] := by
  decide +kernel

theorem test_clear_of_a_locked_load : -- 9-8, step 5
    (let t := after (exec .clear (asked 0x11 [0x04]
        (withLoad 4 { inState .locked with retries := 4, tripCause := some .overcurrent } LoadConfig.factory up)))
     t.loads[4]) = { LoadRec.reset with tripCause := some .overcurrent } := by decide +kernel

/-! ### The brownout (3-12) -/

/-- K0 of 3-12. -/
def k0 : LadderConfig :=
  { enabled := true, source := 16, direction := .falling, top := 3, confirm := 3, fault := 2,
    enter := #v[23000, 22000, 21000, 0], exit := #v[23800, 22800, 21800, 0] }

/-- A reading of VB that has reached the severity unit of a part with K0. -/
def vb (v : Int) (k : Ladder) (s : State) : State :=
  { s with
    ws := { s.ws with ladders := s.ws.ladders.set 0 k0 }
    sev := { s.sev with ladders := s.sev.ladders.set 0 k, depth := k.level }
    scan := { s.scan with toLadders := [{ channel := 16, reading := some v, bound := [0] }] } }

theorem test_third_reading_goes_to_its_own_level : -- 0.030 s: L6 of priority 6 is shed at depth 2
    (let t := after (exec .ladderEvaluation
        (vb 21800 { Ladder.reset with up := 2 } (withLoad 6 (inState .on) { LoadConfig.factory with priority := 6 } up)))
     (t.sev.ladders[0].level, t.sev.depth, t.sev.hold, t.loads[6].state)) = (2, 2, .stopped, .shed) := by decide +kernel

theorem test_a_ladder_takes_no_earlier_reading : -- R83: K0 is set by SET LADDER between the arrival and the evaluation
    (let s := after (exec (.readingArrival 4095) { up with scan := { up.scan with state := .converting 16 false, cursor := 16 } })
     let t := after (exec .setLadder (asked 0x19 (0x00 :: k0.bytes) s))
     (after (exec .ladderEvaluation t)).sev.ladders[0]) = Ladder.reset := by decide +kernel

theorem test_recovery_starts_the_hold : -- 12.030 s
    (let t := after (exec .ladderEvaluation (vb 23100 { Ladder.reset with level := 3, down := 2 } up))
     (t.sev.ladders[0].level, t.sev.depth, t.sev.hold)) = (1, 1, .running 30000) := by decide +kernel

/-! ### Watches (5-6) -/

theorem test_watch_readings :
    (let w2 : WatchConfig := { mode := .tracking, channel := 19, low := 0, high := 450, hysteresis := 20 }
     let w5 : WatchConfig := { mode := .latched, channel := 19, low := -100, high := 400, hysteresis := 30 }
     [w2.nextState .pending (some 380), w5.nextState .inside (some 405), w2.nextState .above (some 440),
       w2.nextState .above (some 430), w5.nextState .above (some 430), w2.nextState .fault (some 395)]) =
      [.inside, .above, .above, .inside, .above, .inside] := by decide

theorem test_watch_reports :
    [watchReports .tracking false .pending .inside, watchReports .latched false .inside .above,
      watchReports .tracking false .fault .inside, watchReports .latched true .inside .above,
      watchReports .latched false .above .fault] = [false, true, true, false, false] := by decide

/-! ### The report store (6-12) -/

/-- The store after frame 123 started. -/
def st123 : Store :=
  { records := [single 120 true, single 121 true, single 122 true, part 123 true false true, part 124 false false false,
      part 125 false true false]
    counter := 126, credits := 0, lost := 0 }

theorem test_ack_inside_a_snapshot :
    (let t := after (exec .ack (asked 0x03 [0x7B, 0x00] { up with store := st123 }))
     (t.store.records.map (·.number), sending t)) = ([123, 124, 125], some [0x00, 0x03]) := by decide +kernel

theorem test_host_loss_requeues :
    (let t := after (exec .silenceExpiry { up with store := st123, session := { up.session with silence := .running 0 } })
     (t.session.state, t.store.records.map (·.resent), t.store.counter)) =
      (.lost, [true, true, true, true, false, false, false], 127) := by decide +kernel

theorem test_full_store_counts_a_loss :
    (let full : Store := { Store.reset with records := List.replicate 64 (single 7 false), counter := 71 }
     (after (exec .killQualified { up with store := full, quals := { up.quals with
        kill := { pin := .low, qualified := false, timer := .running 0 } } })).store.lost) = 1 := by decide +kernel

/-! ### The line, sessions and saves (7-9, 8-9, 10-7) -/

theorem test_start_byte_taken_as_crc : -- 7-9: F2's start byte closes F1 with a CRC error
    (let t := after (exec (.byteArrival 0xC3 false)
        { up with link := { up.link with framer := .check 0x11 0x21 [0x34] (some 0x56), interbyte := .running 3 } })
     (t.link.framer, t.link.stats.crc, t.link.inbound)) = (.hunt, 1, []) := by decide +kernel

theorem test_fifth_tag_replaces_the_oldest : -- 8-9
    ((writeCache { tag := 0x15, crc := 0, reply := mkFrame 0 0 [] }
      ([0x11, 0x12, 0x13, 0x14].map fun t => { tag := t, crc := 0, reply := mkFrame 0 0 [] })).map (·.tag)) =
      [0x12, 0x13, 0x14, 0x15] := by decide +kernel

theorem test_save_targets_the_other_slot : -- 10-7: S0 active with generation 4
    (let s := { up with prof := { up.prof with active := some .s0, generation := 4, known0 := some (.valid 4) } }
     let t := after (exec .save (asked 0x30 [] s))
     (sending t, t.prof.slot1, t.prof.known1)) = (some [0x00, 0x01, 0x05, 0x00, 0x00, 0x00], .torn, some .invalid) := by
  decide +kernel

theorem test_hello_reply : -- R203 on a fresh part: identity 1624h, version 01h, no slot, 64 FREE
    sending (after (exec .hello (asked 0x01 [] up))) =
      some [0x00, 0x24, 0x16, 0x01, 0x00, 0xFF, 0, 0, 0, 0, 64, 0, 0, 0, 0, 0] := by decide +kernel

theorem test_selection_takes_the_higher_generation :
    [selectSlot (.valid 4) (.valid 5), selectSlot (.valid 4) (.valid 4), selectSlot (.valid 4) .invalid,
      selectSlot .blank .invalid] = [some .s1, some .s0, some .s0, none] := by decide

/-! ### States that meet the obligations' hypotheses, one theorem per obligation, every clause -/

/-- A request of tag 01h stands ready to be executed in s. -/
abbrev Asks (kind : Byte) (body : List Byte) (s : State) : Prop :=
  MayExecute kind (mkFrame kind 0x01 body) (asked kind body s) ∧ (mkFrame kind 0x01 body).body = body

theorem witness_StepRunsFrontCommand : ({ up with pending := [.hello] } : State).pending = .hello :: [] := by decide

theorem witness_EmptyQueueRunsDueStepOrOneMillisecond :
    (asked 0x01 [] up).pending = [] ∧ (asked 0x01 [] up).dueStep = some .hello ∧
      (State.reset.dueStep = none ∧ State.reset.phase = .held) ∧
      ({ State.reset with phase := .unpowered } : State).dueStep = none ∧
      (up.dueStep = none ∧ up.phase = .running) ∧ (starting.dueStep = none ∧ starting.phase = .selecting) ∧
      (let s := withSeq { Sequencer.reset with gap := .running 200 } (withLoad 3 { inState .tripped with backoff := .running 5000 } l3 up)
       timerOf s (.backoffExpiry 3) ≠ .stopped ∧ ¬ InTime (timeLeft (timerOf s (.backoffExpiry 3))) s ∧ ¬ GrantDue s) := by
  decide +kernel

theorem witness_EmptyQueueRunsDueStepOrOneMillisecond_time : -- a command without effect, and one whose time passes
    (exec .gapExpiry up = .next up ∧ ¬ takesReset .gapExpiry up ∧ (∀ x y z, Instr.gapExpiry ≠ .resetEnd x y z) ∧ ¬ GrantDue up) ∧
      (let s := withSeq { Sequencer.reset with gap := .running 200 } up
       ¬ GrantDue s ∧ ∃ t, exec .gapExpiry s = .next t) :=
  ⟨⟨rfl, (by rintro (h | h | h | ⟨h, -⟩) <;> cases h), nofun, by decide +kernel⟩, by decide +kernel, _, rfl⟩

theorem up_loads : LoadsOk up :=
  ⟨by decide +kernel, ⟨by decide +kernel, by decide +kernel, by decide +kernel, by decide +kernel⟩, by decide +kernel,
    by decide +kernel, by decide +kernel⟩

theorem witness_EmptyQueueRunsDueStepOrOneMillisecond_idle : ResetOk up ∧ LoadsOk up ∧ ScannerOk up ∧ LinkOk up ∧ up.dueStep = none :=
  ⟨by decide +kernel, up_loads, by decide +kernel, by decide +kernel, by decide +kernel⟩

theorem witness_FrameBytesReachTheInboundQueue : -- body of 0 and of 96 bytes; queue with room and full
    up.link.rxEnabled = true ∧ up.link.framer = .hunt ∧ up.link.inbound.length < 2 ∧
      (List.replicate 96 (0 : Byte)).length ≤ 96 ∧
      ¬ ({ up with link := { up.link with inbound := [mkFrame 1 1 [], mkFrame 1 2 []] } } : State).link.inbound.length < 2 := by
  decide +kernel

theorem witness_FramerFollowsItsTables :
    State.reset.link.rxEnabled = false ∧ up.link.rxEnabled = true ∧
      (let s : State := { up with link := { up.link with framer := .length, interbyte := .running 3 } }
       Expires s.link.interbyte s) ∧
      (0x60#8 : Byte).toNat ≤ 96 ∧ 97 ≤ (0x61#8 : Byte).toNat ∧
      (∀ f ∈ [Framer.hunt, .length, .header 0 none, .header 0 (some 1), .header 1 (some 1), .body 2 1 1 [],
          .body 1 1 1 [], .check 1 1 [] none, .check 1 1 [] (some 0x8C)],
        ({ up with link := { up.link with framer := f } } : State).link.rxEnabled = true) ∧
      ([] : List Byte).length + 1 < 2 ∧ 1 ≤ ([] : List Byte).length + 1 ∧
      (0x00#8 ++ 0x8C#8 : Word) ≠ frameCrc 1 1 [] := by decide +kernel

theorem witness_GoodFrameIsNoticedThenQueued :
    (let s : State := { up with link := { up.link with framer := .check 1 1 [] (some 0x8C) } }
     s.link.rxEnabled = true ∧ s.link.framer = .check 1 1 [] (some 0x8C) ∧
      (0xEF#8 ++ 0x8C#8 : Word) = frameCrc 1 1 []) := by decide +kernel

theorem witness_LineFreesStartsTheNextFrame :
    (let s := fun tx => ({ up with link := { up.link with tx := tx } } : State)
     let f := mkFrame 0x41 1 [0]
     (s (.report f)).link.tx = .report f ∧
      ((s (.reply { frame := f, resets := false })).link.tx = .reply { frame := f, resets := false }) ∧
      (s .idle).link.tx = .idle) := by decide +kernel

theorem witness_ResetsGiveEveryBlockItsResetValues :
    up.phase ≠ .unpowered ∧ ({ State.reset with phase := .unpowered } : State).phase = .unpowered ∧
      ∃ r, ({ up with link := { up.link with tx := .reply { frame := mkFrame 0x7E 1 [0], resets := true } } } : State).link.tx =
        .reply r ∧ r.resets = true := ⟨by decide, by decide, _, rfl, rfl⟩

theorem witness_ResetEndBeginsStartUp : State.reset.phase = .held := by decide

theorem witness_ProfileSelectionFollowsItsTable : -- both VALID with g0 < g1 and g0 = g1, one VALID, none
    starting.phase = .selecting ∧ starting.startup ≠ .stopped ∧ InTime (timeLeft starting.startup) starting ∧
      (let w := fun g => NvSlot.written g WorkingSet.factory
       [(w 1, w 2), (w 2, w 2), (w 0, .torn), (.blank, w 0xFFFFFFFF), (.blank, .torn)].map
        (fun p => (validGeneration p.1, validGeneration p.2)) =
        [(some 1, some 2), (some 2, some 2), (some 0, none), (none, some 0xFFFFFFFF), (none, none)]) := by decide +kernel

theorem witness_StartUpPostsHandsOnAndStarts :
    starting.phase = .selecting ∧ starting.startup ≠ .stopped ∧ InTime (timeLeft starting.startup) starting ∧
      (starting.elapse 30).selectProfile.ws.scanList ≠ [] ∧ BlocksAtReset starting := by decide +kernel

theorem witness_DownAnswersNoSession :
    (let s := asked 0x02 [1] { up with session := { up.session with state := .down } }
     requestKind .grant = some 0x02 ∧ Instr.grant ≠ .hello ∧ MayTake (· = 0x02) (mkFrame 0x02 0x01 [1]) s ∧
      s.session.state = .down) := by decide +kernel

theorem witness_RepeatIsAnsweredFromTheCache :
    (let f := mkFrame 0x02 0x01 [1]
     let e : CacheEntry := { tag := 0x01, crc := f.crc, reply := mkFrame 0x42 0x01 [0, 1] }
     let s := asked 0x02 [1] { up with session := { up.session with cache := [e] } }
     requestKind .grant = some 0x02 ∧ MayTake (· = 0x02) f s ∧ s.session.state ≠ .down ∧
      (s.session.cache.map (·.tag)).Nodup ∧ e ∈ s.session.cache ∧ e.tag = f.tag ∧ e.crc = f.crc) := by decide +kernel

theorem witness_WrongLengthIsRefused : -- HELLO of 1 byte, GRANT of 2, SET SCAN of 1 and of one too few
    (MayTake (· = 0x01) (mkFrame 0x01 0x01 [0]) (asked 0x01 [0] up) ∧ (mkFrame 0x01 0x01 [0]).body ≠ []) ∧
      (Asks 0x02 [1, 1] up ∧ bodyLength 0x02 [1, 1] ≠ some 2) ∧ (Asks 0x20 [0] up ∧ bodyLength 0x20 [0] ≠ some 1) ∧
      (Asks 0x20 [2, 0, 5] up ∧ bodyLength 0x20 [2, 0, 5] ≠ some 3) := by
  and_intros <;> decide +kernel

theorem witness_UnassignedKindAnswersBadKind : -- kinds 00h, 06h and 3Fh
    ∀ k ∈ [0x00#8, 0x06#8, 0x3F#8],
      MayTake (fun k => ∀ c, requestKind c ≠ some k) (mkFrame k 0x01 []) (asked k [] up) := by
  have none : ∀ k ∈ [0x00#8, 0x06#8, 0x3F#8], ∀ c, requestKind c ≠ some k := by
    intro k hk c
    simp only [List.mem_cons, List.not_mem_nil, or_false] at hk
    obtain rfl | rfl | rfl := hk <;> cases c <;> simp [requestKind]
  intro k hk
  exact ⟨rfl, none k hk, rfl, Nat.zero_lt_two, fun h => absurd h.2.2.1 (Bool.false_ne_true)⟩

theorem witness_HelloOpensTheSession :
    ∀ st ∈ [SessionState.down, .up, .lost],
      MayTake (· = 0x01) (mkFrame 0x01 0x01 []) (asked 0x01 [] { up with session := { up.session with state := st } }) := by
  decide +kernel

theorem witness_GrantLendsClampedCredit : -- counts 1 and 64; 0 and 65
    (∀ n ∈ [0x00#8, 0x01#8, 0x40#8, 0x41#8], Asks 0x02 [n] up) ∧ (0x40#8).toNat = 64 ∧ (0x41#8).toNat = 65 := by
  decide +kernel

theorem witness_AckFreesWholeReports :
    (Asks 0x03 [9, 0] { up with store := st123 } ∧ ∀ r ∈ st123.records, ¬ (r.sent = true ∧ r.number = 9)) ∧
      Asks 0x03 [0x7B, 0] { up with store := st123 } ∧ st123.records.length ≤ 64 ∧
      ∃ older newer, st123.records = older ++ part 123 true false true :: newer ∧
        ∀ x ∈ older, ¬ (x.sent = true ∧ x.number = 123) :=
  ⟨by decide +kernel, by decide +kernel, by decide, [single 120 true, single 121 true, single 122 true], _, rfl, by decide⟩

theorem witness_ResendReturnsEverySentRecord :
    Asks 0x04 [] { up with store := st123 } ∧ Asks 0x04 [0] up ∧ sentIn up.store.records = 0 := by decide +kernel

theorem witness_SnapshotIsPostedOrCountedLost : -- 61, 62, 63 and 64 records; a lost count of 1
    (let with' := fun n lost => ({ up with store := { Store.reset with records := List.replicate n (single 7 false), lost := lost } } : State)
     (Asks 0x05 [] (with' 61 0) ∧ (with' 61 0).store.records.length ≤ 61) ∧
      (Asks 0x05 [] (with' 62 0) ∧ 61 < (with' 62 0).store.records.length) ∧
      (Asks 0x05 [] (with' 64 1) ∧ 0 < (with' 64 1).store.lost) ∧
      ((with' 63 0).store.lost = 0 ∧ (with' 63 0).store.records.length < 64) ∧
      (with' 64 0).store.records.length = 64) := by decide +kernel

theorem witness_DemandOffSwitchesTheMaskOff : Asks 0x10 [1, 0, 0] up ∧ Asks 0x10 [0, 0x80, 0] up := by decide +kernel

theorem witness_DemandOnDividesTheMask : -- action 2; mask 0; KILL asserted; no load accepted; one accepted
    Asks 0x10 [1, 0, 2] up ∧ Asks 0x10 [0, 0, 1] up ∧
      (let s : State := { up with quals := { up.quals with kill := { up.quals.kill with qualified := true } } }
       Asks 0x10 [1, 0, 1] s ∧ s.quals.kill.qualified = true) ∧
      (Asks 0x10 [1, 0, 1] up ∧ (loadsOf 1).filter (fun n => up.ws.loads[n].fitted) = []) ∧
      (let s := withLoad 0 LoadRec.reset LoadConfig.factory up
       Asks 0x10 [1, 0, 1] s ∧ (loadsOf 1).filter (fun n => s.ws.loads[n].fitted && decide (s.loads[n].state ≠ .locked)) = [0]) := by
  and_intros <;> decide +kernel

theorem witness_ClearReleasesALockedLoad : -- no body; number 16; number 15 in OFF; number 0 in LOCKED
    Asks 0x11 [] up ∧ Asks 0x11 [16] up ∧ (Asks 0x11 [15] up ∧ up.loads[15].state ≠ .locked) ∧
      (let s := withLoad 0 (inState .locked) LoadConfig.factory up
       Asks 0x11 [0] s ∧ s.loads[0].state = .locked) := by
  and_intros <;> decide +kernel

theorem witness_SetLoadReplacesTheConfiguration : -- number 16; settle 0; a load in ON; a load in OFF
    (let body := fun n : Byte => n :: LoadConfig.factory.bytes
     Asks 0x12 (body 16) up ∧ (body 16).length = 14 ∧ 15 < u8 (body 16) 0 ∧
      (Asks 0x12 ((body 0).set 3 0) up ∧ LoadConfig.ofBody ((body 0).set 3 0) = none) ∧
      (let s := withLoad 15 (inState .on) LoadConfig.factory up
       Asks 0x12 (body 15) s ∧ LoadConfig.ofBody (body 15) = some LoadConfig.factory ∧ s.loads[15].state ≠ .off) ∧
      (Asks 0x12 (body 15) up ∧ up.loads[15].state = .off)) := by
  and_intros <;> decide +kernel

theorem witness_ForceLevelSetsTheFloorAndFormsTheDepth : Asks 0x18 [4] up ∧ Asks 0x18 [5] up := by decide +kernel

theorem witness_SetLadderFollowsTheEnableTable : -- number 4; top 0; channel off the list; accepted
    (let body := fun n : Byte => n :: k0.bytes
     (Asks 0x19 (body 4) up ∧ (body 4).length = 23 ∧ 3 < u8 (body 4) 0) ∧
      (Asks 0x19 ((body 3).set 4 0) up ∧ LadderConfig.ofBody ((body 3).set 4 0) = none) ∧
      (let s : State := { up with ws := { up.ws with scanList := [0] } }
       Asks 0x19 (body 3) s ∧ LadderConfig.ofBody (body 3) = some k0 ∧ k0.source ∉ s.ws.scanList) ∧
      (Asks 0x19 (body 3) up ∧ k0.source ∈ up.ws.scanList)) := by
  and_intros <;> decide +kernel

theorem witness_SetCutoffShedsAtOnceAndRestoresLater :
    ∀ body ∈ ([[8, 8, 8, 8], [1, 1, 1, 1], [9, 8, 8, 8], [8, 8, 8, 0], [4, 5, 1, 1]] : List (List Byte)),
      Asks 0x1A body up := by decide +kernel

theorem witness_SetGlobalsAppliesAllSix :
    (let good := globalsBytes { Globals.factory with cleanRun := 255, restoreHold := 600 }
     Asks 0x28 good up ∧ (Globals.ofBody good).isSome = true ∧ Asks 0x28 (good.set 0 0) up ∧
      Globals.ofBody (good.set 0 0) = none) := by decide +kernel

/-- A part with K0 of 3-12 on channel 16. -/
def withK0 : State := vb 0 Ladder.reset up

theorem witness_SetScanStartsTheNewListOver : -- an empty list; a list that drops K0's channel; one that keeps it
    (Asks 0x20 [0, 0] withK0 ∧ scanOfBody [0, 0] = none) ∧
      (Asks 0x20 [1, 0, 5] withK0 ∧ scanOfBody [1, 0, 5] = some ([5], 0) ∧ ¬ BoundKept [5] withK0) ∧
      (Asks 0x20 [1, 250, 16] withK0 ∧ scanOfBody [1, 250, 16] = some ([16], 250) ∧ BoundKept [16] withK0) :=
  ⟨by decide +kernel, ⟨by decide +kernel, by decide +kernel, fun h => absurd (h.1 0) (by decide +kernel)⟩,
    by decide +kernel, by decide +kernel, by decide +kernel, by decide +kernel, by decide +kernel⟩

theorem witness_SetChannelReplacesItsThreeFields : -- 5 bytes; channel 24; fault detect 2; channel 23
    (Asks 0x21 [0, 0, 0, 0, 0] up) ∧ Asks 0x21 [24, 0, 4, 0, 0, 0] up ∧ Asks 0x21 [23, 0, 4, 0, 0, 2] up ∧
      Asks 0x21 [23, 0, 4, 0, 0x80, 1] up ∧ u8 [23, 0, 4, 0, 0x80, 1] 0 = 23 := by
  and_intros <;> decide +kernel

/-- A SET WATCH body for watch n, LATCHED on channel 16. -/
def latchedBody (n : Byte) : List Byte := n :: watchBytes { WatchConfig.factory with mode := .latched }

theorem witness_SetWatchRearmsAndAckWatchUnlatches : -- number 16; mode 3; channel off the list; accepted; ACK of each mode
    (Asks 0x24 (latchedBody 16) up ∧ (latchedBody 16).length = 9 ∧ 15 < u8 (latchedBody 16) 0) ∧
      (Asks 0x24 ((latchedBody 15).set 1 3) up ∧ WatchConfig.ofBody ((latchedBody 15).set 1 3) = none) ∧
      (Asks 0x24 (latchedBody 15) { up with ws := { up.ws with scanList := [0] } } ∧ (16 : ChanIx) ∉ [(0 : ChanIx)]) ∧
      (Asks 0x24 (latchedBody 15) up ∧
        WatchConfig.ofBody (latchedBody 15) = some { WatchConfig.factory with mode := .latched } ∧ 16 ∈ up.ws.scanList) ∧
      Asks 0x25 [16] up ∧ (Asks 0x25 [15] up ∧ up.ws.watches[15].mode ≠ .latched) ∧
      Asks 0x25 [15]
        { up with ws := { up.ws with watches := up.ws.watches.set 15 { WatchConfig.factory with mode := .latched } } } :=
  ⟨by decide +kernel, by decide +kernel, by decide +kernel, by decide +kernel, by decide +kernel, by decide +kernel,
    by decide +kernel⟩

theorem witness_SaveWritesTheSlotThatIsNotActive :
    (let v : Save := { target := .s0, generation := 1, image := WorkingSet.factory, timer := .running 45 }
     let s : State := { up with prof := { up.prof with save := some v } }
     (Asks 0x30 [] s ∧ s.prof.save.isSome = true) ∧ (Asks 0x30 [] up ∧ up.prof.save = none) ∧
      s.prof.save = some v ∧ Expires v.timer s) := by decide +kernel

theorem witness_ResetRequestClosesTaking :
    Asks 0x3E [] up ∧
      ∃ r, ({ up with link := { up.link with tx := .reply { frame := mkFrame 0x7E 1 [0], resets := true } } } : State).link.tx =
        .reply r ∧ r.resets = true := ⟨by decide +kernel, _, rfl, rfl⟩

theorem witness_ReadRequestsAnswerAndChangeNothing :
    (∀ b ∈ [0x0F#8, 0x10#8], Asks 0x13 [b] up ∧ Asks 0x26 [b] up) ∧
      (∀ b ∈ [0x03#8, 0x04#8, 0x05#8], Asks 0x1B [b] up) ∧
      (Asks 0x22 [24, 1] up ∧ Asks 0x22 [0, 0] up ∧ Asks 0x22 [0, 11] up ∧ Asks 0x22 [15, 10] up ∧ Asks 0x22 [14, 10] up ∧
        Asks 0x22 [23, 1] up) ∧
      Asks 0x29 [] up ∧ ∀ b ∈ [0x00#8, 0x01#8, 0x02#8], Asks 0x2A [b] up :=
  ⟨by decide +kernel, by decide +kernel, by and_intros <;> decide +kernel, by decide +kernel, by decide +kernel⟩

theorem witness_ReadLoadReplyLayout : -- a record that is no SNAPSHOT, and one that is
    (∀ values, (single 7 true).payload ≠ .snapshot values) ∧
      (∀ values, (part 7 true false true).payload = .snapshot values → values.length = 8) ∧
      up.lastCurrent 3 = none ∧
      ∀ v ∈ [(-32768 : Int), 32767], ({ up with scan := { up.scan with
        records := up.scan.records.set 3 { ChannelRec.reset with latest := some v } } } : State).lastCurrent 3 = some v :=
  ⟨nofun, by rintro values ⟨⟩; rfl, by decide +kernel, by decide +kernel⟩

theorem witness_SetBodiesCarryTheirConfigurations :
    (0x0F#8 :: LoadConfig.factory.bytes).length = 14 ∧ (0x03#8 :: LadderConfig.factory.bytes).length = 23 ∧
      (0x0F#8 :: watchBytes WatchConfig.factory).length = 9 ∧ (0x17#8 :: channelBytes ChannelConfig.factory).length = 6 ∧
      (globalsBytes Globals.factory).length = 7 ∧ ([1, 250, 23] : List Byte).length = u8 [1, 250, 23] 0 + 2 := by decide

theorem witness_ReadingArrivalUpdatesTheChannel :
    (¬ GrantDue up ∧ up.scan.state = .converting 0 false ∧ 4095 ≤ 4095 ∧ up.ws.scanList ≠ []) ∧
      (¬ GrantDue State.reset ∧ State.reset.scan.state = .stopped) ∧ 4095 < 4096 ∧
      (let s : State := { up with scan := { up.scan with state := .paused } }
       ¬ GrantDue s ∧ s.scan.state = .paused) := by decide +kernel

theorem witness_PauseGapAndCleanRunExpire :
    (let s : State := { up with scan := { up.scan with state := .paused, pause := .overdue } }
     s.scan.state = .paused ∧ Expires s.scan.pause s ∧ s.ws.scanList ≠ []) ∧
      (let s := withSeq { Sequencer.reset with gap := .running 200 } up
       Expires s.seq.gap s) ∧
      (let s := withLoad 15 { inState .on with cleanRun := .running 1 } LoadConfig.factory up
       s.loads[15].state = .on ∧ Expires s.loads[15].cleanRun s) := by
  and_intros <;> decide +kernel

theorem witness_LadderEvaluationWalksTheLevels :
    (vb 21800 Ladder.reset up).scan.toLadders = { channel := 16, reading := some 21800, bound := [0] } :: [] := by decide

theorem witness_WatchEvaluationFollowsItsTables :
    ({ up with scan := { up.scan with toWatches := [{ channel := 19, reading := none, bound := [2, 5] }] } } : State).scan.toWatches =
      { channel := 19, reading := none, bound := [2, 5] } :: [] := by decide

theorem witness_LoadReadingJudgesOrIgnores :
    ∀ st ∈ [LoadState.starting, .on, .off, .tripped],
      (let s := i3 (some 5300) (withLoad 3 (inState st) l3 up)
       s.scan.toLoads = { channel := 3, reading := some 5300, bound := 3 } :: [] ∧ s.loads[3].state = st) := by decide +kernel

theorem witness_StartGrantNeedsAllFiveConditions :
    (grantable.seq.queue = { load := 3, priority := 2, number := 40 } :: [] ∧ grantable.loads[3].state = .queued ∧
        grantable.seq.slot = none ∧ grantable.seq.gap = .stopped ∧ grantable.scan.primed = true ∧
        grantable.sev.depth ≤ grantable.ws.globals.startCeiling) ∧
      ({ grantable with seq := { grantable.seq with slot := some 0 } } : State).seq.slot ≠ none ∧
      ({ grantable with seq := { grantable.seq with gap := .running 1 } } : State).seq.gap ≠ .stopped ∧
      up.scan.primed = false ∧
      ({ grantable with sev := { grantable.sev with depth := 2 } } : State).ws.globals.startCeiling < 2 ∧
      up.seq.queue = [] := by decide +kernel

theorem witness_StartGrantNeedsAllFiveConditions_order : -- the law: a request that meets the due grant; the exceptions: a priming reading, a byte
    followsGrant .clear = true ∧ exec .startGrant grantable = .next grantable.takeGrant ∧
      (let s : State := { grantable with scan := { Scanner.reset with state := .converting 3 false, records := Vector.replicate 24 { ChannelRec.reset with read := true } } }
       s.scan.primed = false ∧ GrantDue (after (exec (.readingArrival 0) s))) ∧
      GrantDue grantable ∧ followsGrant (.byteArrival 0 false) = false ∧
        GrantDue (after (exec (.byteArrival 0 false) grantable)) :=
  ⟨rfl, rfl, by decide +kernel, by decide +kernel, rfl, by decide +kernel⟩

theorem witness_SettleAndBackoffExpire :
    (let s := withLoad 3 { inState .starting with settle := .running 0 } l3 up
     s.loads[3].state = .starting ∧ Expires s.loads[3].settle s ∧ s.ws.loads[3].feedback = .none) ∧
      (let s := withLoad 3 { inState .starting with settle := .overdue } { l3 with feedback := .required } up
       Expires s.loads[3].settle s ∧ s.ws.loads[3].feedback = .required ∧ s.quals.pg[3].qualified = false) ∧
      (let s := withLoad 3 { inState .tripped with backoff := .running 5000 } l3 up
       s.loads[3].state = .tripped ∧ Expires s.loads[3].backoff s) := by
  and_intros <;> decide +kernel

theorem witness_RestoreHoldExpiryQueuesUnshedLoads :
    (let s : State := { up with sev := { Severity.reset with hold := .running 30000 } }
     Expires s.sev.hold s) := by decide +kernel

theorem witness_SilenceExpiryDeclaresTheHostLost :
    (let s : State := { up with session := { up.session with silence := .running 0 } }
     s.session.state = .up ∧ Expires s.session.silence s) := by decide +kernel

theorem witness_QualifiedInputsActOnTheirBlocks :
    (let q : Qualifier := { pin := .low, qualified := true, timer := .running 0 }
     let s : State := { up with quals := { kill := q, shed := q, pg := up.quals.pg.set 15 q } }
     Expires s.quals.pg[15].timer s ∧ Expires s.quals.kill.timer s ∧ Expires s.quals.shed.timer s) := by
  decide +kernel

theorem witness_StepKeepsResetValuesUntilRunning :
    ResetOk State.reset ∧ ResetOk starting ∧ ResetOk up ∧ ∃ t, step starting = .next t :=
  ⟨by decide +kernel, by decide +kernel, by decide +kernel, _, rfl⟩

theorem witness_StepKeepsConfigurationAndProfileLawful :
    (ResetOk up ∧ ConfigOk up ∧ ProfileOk up) ∧ ∃ t, step up = .next t :=
  ⟨⟨by decide +kernel, ⟨by decide +kernel, by decide +kernel, by decide +kernel, by decide +kernel⟩, by decide +kernel⟩, _, rfl⟩

/-- st123 with its three parts of one SNAPSHOT is a lawful store. -/
theorem witness_StepKeepsTheReportStoreLawful :
    StoreOk ({ up with store := st123 } : State).store ∧ ∃ t, step { up with store := st123 } = .next t :=
  ⟨by decide +kernel, _, rfl⟩

theorem grantable_loads : LoadsOk grantable :=
  ⟨by decide +kernel, ⟨by decide +kernel, by decide +kernel, by decide +kernel, by decide +kernel⟩, by decide +kernel,
    by decide +kernel, by decide +kernel⟩

theorem grantable_config : ConfigOk grantable :=
  ⟨by decide +kernel, by decide +kernel, by decide +kernel, by decide +kernel⟩

theorem witness_StepKeepsLoadsAndQueueLawful :
    ResetOk grantable ∧ LoadsOk grantable ∧ ∃ t, step grantable = .next t :=
  ⟨by decide +kernel, grantable_loads, _, rfl⟩

theorem test_first_come_across_the_wrap : -- R33: L1 waits under FFFFh; L2 joins under 0000h, of the same priority
    (let s := withSeq
        { Sequencer.reset with queue := [{ load := 1, priority := 7, number := 0xFFFF }], counter := 0, slot := some 0 }
        (withLoad 2 LoadRec.reset LoadConfig.factory up)
     (after (exec .demand (asked 0x10 [4, 0, 1] s))).seq.queue) =
      [{ load := 1, priority := 7, number := 0xFFFF }, { load := 2, priority := 7, number := 0 }] := by decide +kernel

theorem witness_StepKeepsDepthAndShedLoadsLawful :
    ResetOk grantable ∧ ConfigOk grantable ∧ LoadsOk grantable ∧ SeverityOk grantable ∧ ∃ t, step grantable = .next t :=
  ⟨by decide +kernel, grantable_config, grantable_loads, by decide +kernel, _, rfl⟩

theorem witness_StepKeepsScannerAndWatchesLawful :
    ResetOk up ∧ ConfigOk up ∧ ScannerOk up ∧ WatchesOk up ∧ ∃ t, step up = .next t :=
  ⟨by decide +kernel, ⟨by decide +kernel, by decide +kernel, by decide +kernel, by decide +kernel⟩, by decide +kernel,
    by decide +kernel, _, rfl⟩

theorem witness_StepKeepsLinkAndSessionLawful :
    LoadsOk (asked 0x10 [1, 0, 1] grantable) ∧ LinkOk (asked 0x10 [1, 0, 1] grantable) ∧
      ∃ t, step (asked 0x10 [1, 0, 1] grantable) = .next t := ⟨grantable_loads, by decide +kernel, _, rfl⟩

theorem witness_BeyondAndClearedRunWithTheThresholds : -- both directions; levels 1 and T
    (k0.ok = true ∧ k0.direction = .falling ∧ k0.direction.beyond 21000 (k0.enterAt 3) = true ∧
        k0.direction.cleared 23801 (k0.exitAt 1) = true) ∧
      (let c := { k0 with direction := .rising, enter := #v[21000, 22000, 23000, 0], exit := #v[20200, 21200, 22200, 0] }
       c.ok = true ∧ c.direction.beyond 23000 (c.enterAt 3) = true ∧ c.direction.cleared 20199 (c.exitAt 1) = true) := by decide

theorem witness_SessionStateFollowsItsTable : -- each row of R140's table, and a reset
    (let st := fun x => ({ up with session := { up.session with state := x, silence := .running 0 } } : State)
     (after (exec .hello (asked 0x01 [] (st .down)))).session.state = .up ∧
      (after (exec .silenceExpiry (st .up))).session.state = .lost ∧
      (after (exec .hello (asked 0x01 [] (st .lost)))).session.state = .up ∧
      (after (exec (.byteArrival 0xEF false)
        { st .lost with link := { up.link with framer := .check 1 1 [] (some 0x8C), interbyte := .running 3 } })).session.state = .up ∧
      (after (exec .pinReset (st .up))).session.state = .down) := by decide +kernel

theorem witness_RecordsLeaveOnlyByAckOrReset : -- an ACK of 122 frees three records
    StoreOk st123 ∧ ¬ takesReset .ack (asked 0x03 [0x7A, 0] { up with store := st123 }) ∧
      ¬ GrantDue (asked 0x03 [0x7A, 0] { up with store := st123 }) ∧
      (after (exec .ack (asked 0x03 [0x7A, 0] { up with store := st123 }))).store.records.length = 3 :=
  ⟨by decide +kernel, (by rintro (h | h | h | ⟨h, -⟩) <;> cases h), by decide +kernel, by decide +kernel⟩

/-- A primed part with L2 fitted, in OFF, and an empty queue. -/
def primedL2 : State :=
  withLoad 2 LoadRec.reset LoadConfig.factory { up with scan := { up.scan with primed := true } }

theorem primedL2_loads : LoadsOk (asked 0x10 [4, 0, 1] primedL2) :=
  ⟨by decide +kernel, ⟨by decide +kernel, by decide +kernel, by decide +kernel, by decide +kernel⟩, by decide +kernel,
    by decide +kernel, by decide +kernel⟩

theorem witness_EnableBecomesActiveOnlyAtAGrant : -- the head stood in the queue; a load that joined in this command
    (followsGrant .startGrant = false ∧ grantable.en 3 = false ∧ (after (exec .startGrant grantable)).en 3 = true) ∧
      (let s := withSeq { grantable.seq with gap := .running 0 } grantable
       ¬ GrantDue s ∧ s.en 3 = false ∧ (after (exec .gapExpiry s)).en 3 = true) ∧
      (ResetOk grantable ∧ LoadsOk grantable ∧ grantable.loads[3].state = .queued) ∧
      (let s := asked 0x10 [4, 0, 1] primedL2
       ResetOk s ∧ LoadsOk s ∧ ¬ GrantDue s ∧ s.loads[2].state = .off ∧ s.en 2 = false ∧
        (after (exec .demand s)).en 2 = true) :=
  ⟨by decide +kernel, by decide +kernel, ⟨by decide +kernel, grantable_loads, by decide +kernel⟩,
    by decide +kernel, primedL2_loads, by decide +kernel, by decide +kernel, by decide +kernel, by decide +kernel⟩

end Sys2Proof.Tests
end

section
/-! PROOFS. The words of the claims for a due grant, the line, the moment of an expiry and an executed request, each tied to the
operation of the model that it restates. -/

namespace Sys2Proof.Proofs

open Sys2Proof.Machine Sys2Proof.Safety Sys2Proof.Claims

/-! ### The grant (R36, R37) -/

/-- Only a stopped timer does not run (R1). -/
theorem isRunning_eq_false {t : Timer} : t.isRunning = false ↔ t = .stopped := by
  cases t <;> simp

/-- The model's test of a due grant is the five conditions of R36. -/
theorem grantDue_iff {s : State} : s.grantDue = true ↔ GrantDue s := by
  simp only [State.grantDue, GrantDue, Bool.and_eq_true, Option.isNone_iff_eq_none, Bool.not_eq_true',
    isRunning_eq_false, decide_eq_true_eq, List.isEmpty_eq_false_iff, and_assoc, ne_eq]

theorem grantDue_eq_false {s : State} : s.grantDue = false ↔ ¬ GrantDue s := by
  rw [← grantDue_iff, Bool.not_eq_true]

/-- What comes after a due grant finds the state as it is where none is due (2-7). -/
theorem takeGrant_of_not_GrantDue {s : State} (h : ¬ GrantDue s) : s.takeGrant = s :=
  State.takeGrant_of_not_due (grantDue_eq_false.mpr h)

/-- The claims' consideration of a grant is the model's (R10, R37, R38). -/
theorem withGrant_eq (s : State) : withGrant s = s.considerGrant := by
  obtain ⟨due, eq⟩ | ⟨e, rest, queue, due, eq⟩ := s.considerGrant_cases <;> rw [eq, withGrant]
  · split
    · rfl
    · exact if_neg (grantDue_eq_false.mp due)
  · simp only [queue]
    exact if_pos (grantDue_iff.mp due)

/-! ### The line (R135) -/

/-- An offered record that starts is the start of a report as the claims say it (R113). -/
theorem reportStarted_startReport {s : State} (idle : s.link.tx = .idle) (offers : s.store.offers = true) :
    ReportStarted s s.startReport := by
  obtain ⟨older, r, newer, credit, records, sent, posted, eq⟩ := State.startReport_of_offers offers
  exact ⟨idle, credit, older, r, newer, records, sent, posted, eq⟩

/-- The transmitter's choice is one of the four outcomes of R135. -/
theorem lineTaken_kick (s : State) : LineTaken s s.kick := by
  obtain ⟨busy, eq⟩ | ⟨r, rest, idle, waiting, eq⟩ | ⟨idle, none, offers, eq⟩ | ⟨idle, none, offers, eq⟩ := s.kick_cases
  · exact .inl ⟨fun idle => by simp [idle, Transmitter.isIdle] at busy, eq⟩
  · exact .inr (.inl ⟨r, rest, idle, waiting, eq⟩)
  · exact .inr (.inr (.inl ⟨none, eq ▸ reportStarted_startReport idle offers⟩))
  · exact .inr (.inr (.inr ⟨idle, none, Store.offers_eq_false.mp offers, eq⟩))

/-! ### The moment of an expiry (R1) -/

theorem timeLeft_eq (t : Timer) : timeLeft t = t.left := by cases t <;> rfl

theorem waits_eq (d : Nat) (t : Timer) : waits d t = t.allows d := by cases t <;> rfl

theorem waitsExactly_eq (d : Nat) (t : Timer) : waitsExactly d t = t.allowsExact d := by cases t <;> rfl

/-- The claims' bound on the time that may pass is the model's (R1, R192). -/
theorem inTime_iff {d : Nat} {s : State} : InTime d s ↔ s.allows d = true := by
  simp only [State.allows_iff, InTime, waits_eq, waitsExactly_eq]

/-- No time is always in time. -/
theorem inTime_zero (s : State) : InTime 0 s := by
  have exact_zero : s.startup.allowsExact 0 = true := by cases s.startup <;> simp [Timer.allowsExact]
  rw [inTime_iff, State.allows_iff]
  simp [Timer.allows_zero, exact_zero]

/-- The claims' moment of an expiry is the model's (log 2). -/
theorem atExpiry_eq (t : Timer) (s : State) : atExpiry t s = s.reachExpiry t.left := by
  unfold atExpiry State.reachExpiry
  simp only [inTime_iff, timeLeft_eq]
  cases Config.expiresLate s.choices <;> cases s.allows (t.left + 1) <;> simp

/-- Where the expiry of a timer comes next, its moment is reached, its event takes place and the line is taken (R1). -/
theorem whenDue_of_expires {t : Timer} {s : State} (h : Expires t s) (event : State → State) :
    s.whenDue t event = (event (atExpiry t s)).kick := by
  obtain ⟨runs, inTime, -⟩ := h
  rw [timeLeft_eq, inTime_iff] at inTime
  rw [atExpiry_eq]
  obtain ⟨stopped | late, -⟩ | ⟨-, -, eq⟩ := s.whenDue_cases t event
  · exact absurd stopped runs
  · simp [late] at inTime
  · exact eq

/-- Where the expiry of a timer comes next, its event takes place at its moment, and the line is taken. -/
theorem lineTaken_of_expires {t : Timer} {s : State} (h : Expires t s) (event : State → State) :
    LineTaken (event (atExpiry t s)) (s.whenDue t event) :=
  whenDue_of_expires h event ▸ lineTaken_kick _

/-- Where the expiry of a timer comes next, no grant stands before it. -/
theorem takeGrant_of_expires {t : Timer} {s : State} (h : Expires t s) : s.takeGrant = s :=
  takeGrant_of_not_GrantDue h.2.2

/-- Time takes no load out of its state (R1). -/
theorem elapse_load_state (d : Nat) (s : State) (n : LoadIx) : (s.elapse d).loads[n].state = s.loads[n].state := by
  cases runs : s.phase.timeRuns with
  | false => rw [State.elapse_still runs]
  | true => rw [State.elapse_load runs, LoadRec.elapse_state]

theorem atExpiry_load_state (t : Timer) (s : State) (n : LoadIx) : (atExpiry t s).loads[n].state = s.loads[n].state := by
  rw [atExpiry_eq]
  exact elapse_load_state _ s n

/-! ### An executed request (R142, R152) -/

theorem cacheWith_eq (f : Frame) (body : List Byte) (cache : List CacheEntry) :
    cacheWith f body cache = writeCache { tag := f.tag, crc := f.crc, reply := replyTo f body } cache := by
  simp only [cacheWith, writeCache, List.drop_one]

/-- What the owning block answers is executed as step 5 of R142 says: the meeting of R136, the cache, the reply, the line. -/
theorem executed_executeRequest (f : Frame) (own : List Byte → State → Answer) (s : State) :
    Executed f (own f.body s).body (own f.body s).resets (own f.body s).state (s.executeRequest true f own) := by
  have reply : ∀ u : State, ReplyQueued (replyTo f (own f.body s).body) (own f.body s).resets
      (cached f (own f.body s).body u)
      (State.queueReply (replyTo f (own f.body s).body) (own f.body s).resets
        (cached f (own f.body s).body u)).kick := fun u => lineTaken_kick _
  have eq : s.executeRequest true f own =
      (State.queueReply (replyTo f (own f.body s).body) (own f.body s).resets
        (cached f (own f.body s).body (own f.body s).state.offerBeforeReply)).kick := by
    simp only [State.executeRequest, cached, cacheWith_eq]; rfl
  rw [eq]
  obtain h | h | ⟨idle, none, offers, h⟩ := (own f.body s).state.offerBeforeReply_cases <;> rw [h]
  · exact ⟨_, _, .inl rfl, reply _⟩
  · exact ⟨_, _, .inl rfl, reply _⟩
  · refine ⟨(own f.body s).state.choices + 1, _, .inr ⟨none, ?_⟩, reply _⟩
    obtain ⟨older, r, newer, credit, records, sent, posted, started⟩ := State.startReport_of_offers offers
    exact ⟨idle, credit, older, r, newer, records, sent, posted, by rw [started]⟩

/-- A request that reaches step 5 of R142 is taken and executed. -/
theorem takeRequest_of_mayExecute {kind : Byte} {f : Frame} {s : State} (h : MayExecute kind f s)
    (own : List Byte → State → Answer) (offers : Bool) :
    s.takeRequest offers kind own = (taken s).executeRequest offers f own := by
  obtain ⟨⟨head, isKind, taking, room, noGrant⟩, up, fresh⟩ := h
  have takes : s.takes (fun k => decide (k = kind)) = some f :=
    State.takes_eq_some.mpr ⟨head, by simpa using isKind, taking, room⟩
  obtain ⟨none, -⟩ | ⟨g, found, ⟨down, -⟩ | ⟨-, e, rep, -⟩ | ⟨-, -, eq⟩⟩ :=
    State.takeRequest_cases offers kind own (grantDue_eq_false.mpr noGrant)
  · simp [takes] at none
  · exact absurd down up
  · obtain ⟨mem, tag, crc⟩ := findRepeat_some rep
    obtain rfl : f = g := Option.some.inj (takes.symm.trans found)
    exact absurd ⟨tag, crc⟩ (fresh e mem)
  · obtain rfl : f = g := Option.some.inj (takes.symm.trans found)
    exact eq

/-- The outcome of a request that reaches step 5 of R142, by what the owning block answers. -/
theorem executed_takeRequest {kind : Byte} {f : Frame} {s : State} (h : MayExecute kind f s)
    (own : List Byte → State → Answer) {body : List Byte} {resets : Bool} {t : State}
    (answer : own f.body (taken s) = { state := t, body := body, resets := resets }) :
    Executed f body resets t (s.takeRequest true kind own) := by
  rw [takeRequest_of_mayExecute h]
  simpa only [answer] using executed_executeRequest f own (taken s)

end Sys2Proof.Proofs
end

section
/-! PROOFS. The closed forms of the claims for loads that trip, settle, leave, join and are shed, each equal to what the model's
operations leave, one load after the other. -/

namespace Sys2Proof.Proofs

open Sys2Proof.Machine Sys2Proof.Safety Sys2Proof.Claims

/-! ### One load -/

/-- What a load gives up with its state is what the record loses at leaving, whatever state follows (R9, R24). -/
theorem leftFor_eq (new : LoadState) (r : LoadRec) : leftFor new r = { r.leave with state := new } := by
  unfold leftFor LoadRec.leave
  cases r.state <;> rfl

/-- What a record loses at leaving does not depend on its demand. -/
theorem leave_demand (r : LoadRec) (on : Bool) : LoadRec.leave { r with demand := on } = { r.leave with demand := on } := by
  obtain ⟨_, state, _, _, _, _, _, _, _, _⟩ := r
  cases state <;> rfl

/-- What a record loses at leaving does not depend on its retries and its trip cause. -/
theorem leave_retries (r : LoadRec) (retries : Nat) (cause : Option TripCause) :
    LoadRec.leave { r with retries := retries, tripCause := cause } =
      { r.leave with retries := retries, tripCause := cause } := by
  obtain ⟨_, state, _, _, _, _, _, _, _, _⟩ := r
  cases state <;> rfl

/-- A load in OFF or SHED holds nothing that it loses with its state. -/
theorem leave_of_idle {r : LoadRec} (idle : r.state = .off ∨ r.state = .shed) : r.leave = r := by
  unfold LoadRec.leave
  obtain h | h := idle <;> rw [h]

/-- A move as one change of record, sequencer and store (R30, R32, R34, R40). -/
theorem moveLoad_eq (n : LoadIx) (new : LoadState) (cause : Cause) (s : State) :
    s.moveLoad n new cause =
      { s with
        loads := s.loads.set n (LoadRec.enter s.ws.loads[n] s.ws.globals.cleanRun s.seq.counter new s.loads[n].leave)
        seq := (s.seq.onLeave n s.ws.globals.startGap s.loads[n].state).onEnter n s.ws.loads[n].priority new
        store := s.store.post s.timeBase
          [.loadState n s.loads[n].state new cause s.loads[n].retries (s.lastCurrent n)] } := rfl

/-- A record written and its load moved, as one change of record, sequencer and store. -/
theorem moveLoad_setLoad (n : LoadIx) (r : LoadRec) (new : LoadState) (cause : Cause) (s : State) :
    (s.setLoad n r).moveLoad n new cause =
      { s with
        loads := s.loads.set n (LoadRec.enter s.ws.loads[n] s.ws.globals.cleanRun s.seq.counter new r.leave)
        seq := (s.seq.onLeave n s.ws.globals.startGap r.state).onEnter n s.ws.loads[n].priority new
        store := s.store.post s.timeBase [.loadState n r.state new cause r.retries (s.lastCurrent n)] } := by
  have self : (s.loads.set n r)[n] = r := by simp
  have twice : ∀ r', (s.loads.set n r).set n r' = s.loads.set n r' := fun r' => by simp
  simp only [moveLoad_eq, State.setLoad, self, twice]
  rfl

/-- The record of load n replaced by itself. -/
theorem setLoad_self (n : LoadIx) (s : State) : s.setLoad n s.loads[n] = s := by
  simp [State.setLoad]

/-! ### Loads that leave (R9, R19, R24, R34, R40) -/

/-- A load out of QUEUED and STARTING holds nothing of the sequencer's. -/
theorem onLeave_of_ne {st : LoadState} (notQueued : st ≠ .queued) (notStarting : st ≠ .starting) (n : LoadIx) (gap : Nat)
    (q : Sequencer) : q.onLeave n gap st = q := by
  cases st <;> simp_all [Sequencer.onLeave]

/-- No load left: the sequencer stands. -/
theorem seqWithout_nil (s : State) : seqWithout [] s = s.seq := by
  simp [seqWithout]

/-- The first load leaves as the model has it, and the others leave what that leaves. -/
theorem seqWithout_cons {n : LoadIx} {ns : List LoadIx} (fresh : n ∉ ns) (s : State) :
    seqWithout (n :: ns) s =
      seqWithout ns { s with seq := s.seq.onLeave n s.ws.globals.startGap s.loads[n].state } := by
  have split : ∀ e : QueueEntry, ((n :: ns).contains e.load && decide (s.loads[e.load].state = .queued)) =
      (decide (e.load = n ∧ s.loads[n].state = .queued) ||
        (ns.contains e.load && decide (s.loads[e.load].state = .queued))) := by
    intro e
    by_cases self : e.load = n
    · simp [self, fresh]
    · simp [self]
  simp only [seqWithout, split, List.any_cons]
  by_cases queued : s.loads[n].state = .queued
  · simp [-Fin.getElem_fin, queued, Sequencer.onLeave, Sequencer.leave, List.filter_filter, Bool.and_comm]
  by_cases starting : s.loads[n].state = .starting
  · by_cases noGap : s.ws.globals.startGap = 0
    · simp [-Fin.getElem_fin, starting, Sequencer.onLeave, Sequencer.release, noGap]
    · simp [-Fin.getElem_fin, starting, Sequencer.onLeave, Sequencer.release, noGap, Nat.pos_of_ne_zero noGap]
  · simp [-Fin.getElem_fin, queued, starting, onLeave_of_ne queued starting]

/-- One load leaves the queue or the start slot (R34, R40). -/
theorem seqWithout_singleton (n : LoadIx) (s : State) :
    seqWithout [n] s = s.seq.onLeave n s.ws.globals.startGap s.loads[n].state := by
  rw [seqWithout_cons List.not_mem_nil, seqWithout_nil]

/-- A trip (R19). -/
theorem withTrip_eq (cause : TripCause) (n : LoadIx) (s : State) : withTrip cause n s = s.trip cause n := by
  obtain ⟨within, eq⟩ | ⟨spent, eq⟩ := s.trip_cases cause n <;> rw [eq, moveLoad_setLoad]
  · simp only [withTrip, seqWithout_singleton, leftFor_eq, Nat.not_lt.mpr within, decide_false, leave_retries,
      Bool.false_eq_true, if_false]
    rfl
  · simp only [withTrip, seqWithout_singleton, leftFor_eq, spent, decide_true, leave_retries, if_true]
    rfl

/-- The settle time's good end (R12). -/
theorem withSettled_eq {n : LoadIx} {s : State} (starting : s.loads[n].state = .starting) :
    withSettled n s = s.moveLoad n .on .settled := by
  simp only [moveLoad_eq, withSettled, seqWithout_singleton, leftFor_eq, starting]
  rfl

/-! ### Loads that join (R32, R33) -/

/-- An entry joins where the model puts it (R33). -/
theorem placed_eq (e : QueueEntry) (q : List QueueEntry) : placed e q = joinQueue e q := by
  induction q with
  | nil => rfl
  | cons x rest ih => rw [placed, joinQueue_cons, ih]

theorem seqWith_nil (s : State) : seqWith [] s = s.seq := by
  simp [seqWith, entryNumber]

/-- The loads behind the first take the numbers that follow its own (R32). -/
theorem entryNumber_succ {s t : State} (h : t.seq.counter = s.seq.counter + 1) (i : Nat) :
    entryNumber t i = entryNumber s (i + 1) := by
  simp only [entryNumber, h, BitVec.ofNat_add, BitVec.add_assoc]
  rw [BitVec.add_comm (BitVec.ofNat 16 i)]; rfl

/-- The first load joins as the model has it, and the others join what that leaves. -/
theorem seqWith_cons (n : LoadIx) (ns : List LoadIx) (s : State) :
    seqWith (n :: ns) s = seqWith ns { s with seq := s.seq.join n s.ws.loads[n].priority } := by
  have number : ∀ i, entryNumber s (i + 1) = entryNumber { s with seq := s.seq.join n s.ws.loads[n].priority } i :=
    fun i => (entryNumber_succ rfl i).symm
  simp only [seqWith, List.zipIdx_cons', List.foldl_cons, List.foldl_map, List.length_cons, Prod.map_fst, Prod.map_snd, id,
    number, placed_eq]
  simp [Sequencer.join, entryNumber]

theorem seqWith_singleton (n : LoadIx) (s : State) : seqWith [n] s = s.seq.join n s.ws.loads[n].priority := by
  rw [seqWith_cons, seqWith_nil]

/-- The end of a backoff, and the grant (R21, R37). -/
theorem withBackoffEnded_eq {n : LoadIx} {s : State} (tripped : s.loads[n].state = .tripped) :
    withGrant (withBackoffEnded n s) = s.backoffExpires n := by
  have leave : LoadRec.leave { s.loads[n] with backoff := .stopped } = { s.loads[n] with backoff := .stopped } := by
    simp only [LoadRec.leave, tripped]
  rw [withGrant_eq, State.backoffExpires, moveLoad_setLoad, leave]
  simp only [withBackoffEnded, seqWith_singleton, tripped]
  cases s.loads[n].demand with
  | false => rfl
  | true =>
    cases s.isShed n with
    | false => rfl
    | true => rfl

end Sys2Proof.Proofs
end

section
/-! PROOFS. One event at several loads, one load after the other, in closed form: what becomes of each record, of the start queue
and of the report store. -/

namespace Sys2Proof.Proofs

open Sys2Proof.Machine Sys2Proof.Safety Sys2Proof.Claims

/-! ### What one event at several loads can change -/

/-- s with these load records, this sequencer and this report store. -/
def withBlocks (loads : Vector LoadRec 16) (seq : Sequencer) (store : Store) (s : State) : State :=
  { s with loads := loads, seq := seq, store := store }

/-- Of one state, two changes of these blocks to the same values. -/
theorem withBlocks_congr {loads loads' : Vector LoadRec 16} {seq seq' : Sequencer} {store store' : Store} (s : State)
    (hl : loads = loads') (hq : seq = seq') (hs : store = store') :
    withBlocks loads seq store s = withBlocks loads' seq' store' s := by
  rw [hl, hq, hs]

/-- Of two changes of these blocks the second stands. -/
theorem withBlocks_eq {loads loads' earlier : Vector LoadRec 16} {seq seq' before : Sequencer} {store store' old : Store}
    (s : State) (hl : loads = loads') (hq : seq = seq') (hs : store = store') :
    withBlocks loads seq store s = withBlocks loads' seq' store' (withBlocks earlier before old s) := by
  subst hl hq hs; rfl

theorem set_other {n m : LoadIx} (h : m ≠ n) (loads : Vector LoadRec 16) (r : LoadRec) : (loads.set n r)[m] = loads[m] :=
  Vector.getElem_set_ne _ _ fun e => h (Fin.ext e.symm)

theorem set_self (n : LoadIx) (loads : Vector LoadRec 16) (r : LoadRec) : (loads.set n r)[n] = r :=
  Vector.getElem_set_self _

/-- Records written load by load: the first load's, then the others'. -/
theorem ofFn_cons {n : LoadIx} {ns : List LoadIx} {f g : LoadIx → LoadRec} {loads : Vector LoadRec 16} (fresh : n ∉ ns)
    (agree : ∀ m ∈ ns, f m = g m) :
    (Vector.ofFn fun m : LoadIx => if m ∈ n :: ns then f m else loads[m]) =
      Vector.ofFn fun m : LoadIx => if m ∈ ns then g m else (loads.set n (f n))[m] := by
  refine congrArg Vector.ofFn (funext fun m => ?_)
  by_cases first : m = n
  · subst first
    rw [if_pos List.mem_cons_self, if_neg fresh, set_self]
  · rw [set_other first]
    by_cases mem : m ∈ ns
    · rw [if_pos (List.mem_cons_of_mem n mem), if_pos mem, agree m mem]
    · rw [if_neg (by simp [first, mem]), if_neg mem]

/-- A closed form that takes the first of its loads as an operation does is that operation on each of them in turn. -/
theorem eq_eachLoad {form : List LoadIx → State → State} {op : LoadIx → State → State} (nil : ∀ s, form [] s = s)
    (cons : ∀ n ns s, n ∉ ns → form (n :: ns) s = form ns (op n s)) :
    ∀ {ns : List LoadIx}, ns.Nodup → ∀ s, form ns s = s.eachLoad ns op
  | [], _, s => nil s
  | n :: ns, distinct, s => by
    obtain ⟨fresh, rest⟩ := List.nodup_cons.mp distinct
    rw [cons n ns s fresh, eq_eachLoad nil cons rest, State.eachLoad_cons]

/-! ### An event at a load -/

/-- An event at a load: the demand it writes, the state it moves the load to, if any, and the cause it reports. Where a load goes
follows from the configuration, the depth and its own record alone. -/
structure LoadEvent where
  demand : LoadRec → Bool
  goal : State → LoadIx → Option LoadState
  cause : Cause
  goal_congr : ∀ {s t : State} {n : LoadIx}, t.ws = s.ws → t.sev = s.sev → t.loads[n] = s.loads[n] → goal t n = goal s n

namespace LoadEvent

variable (e : LoadEvent)

/-- The record with its new demand. -/
def write (r : LoadRec) : LoadRec := { r with demand := e.demand r }

/-- The event at load n, as the model's operations carry it out. -/
def act (n : LoadIx) (s : State) : State :=
  match e.goal s n with
  | some new => (s.setLoad n (e.write s.loads[n])).moveLoad n new e.cause
  | none => s.setLoad n (e.write s.loads[n])

theorem act_of_goal {n : LoadIx} {s : State} {new : LoadState} (goal : e.goal s n = some new) :
    e.act n s = (s.setLoad n (e.write s.loads[n])).moveLoad n new e.cause := by
  simp only [act, goal]

theorem act_of_stay {n : LoadIx} {s : State} (goal : e.goal s n = none) : e.act n s = s.setLoad n (e.write s.loads[n]) := by
  simp only [act, goal]

/-- The record of load n after the event, with this entry number if it joins the queue. -/
def record (s : State) (number : Word) (n : LoadIx) : LoadRec :=
  match e.goal s n with
  | some new => LoadRec.enter s.ws.loads[n] s.ws.globals.cleanRun number new (e.write s.loads[n]).leave
  | none => e.write s.loads[n]

theorem record_of_goal {n : LoadIx} {s : State} {new : LoadState} (goal : e.goal s n = some new) (number : Word) :
    e.record s number n =
      LoadRec.enter s.ws.loads[n] s.ws.globals.cleanRun number new (e.write s.loads[n]).leave := by
  simp only [record, goal]

theorem record_of_stay {n : LoadIx} {s : State} (goal : e.goal s n = none) (number : Word) :
    e.record s number n = e.write s.loads[n] := by
  simp only [record, goal]

/-- What the event at load n makes of the sequencer. -/
def sequence (s : State) (q : Sequencer) (n : LoadIx) : Sequencer :=
  match e.goal s n with
  | some new => (q.onLeave n s.ws.globals.startGap s.loads[n].state).onEnter n s.ws.loads[n].priority new
  | none => q

/-- The LOAD_STATE report of the event at load n, if it moves. -/
def report (s : State) (n : LoadIx) : Option Payload :=
  (e.goal s n).map fun new => .loadState n s.loads[n].state new e.cause s.loads[n].retries (s.lastCurrent n)

/-- The loads that join the queue. -/
def joins (ns : List LoadIx) (s : State) : List LoadIx := ns.filter fun n => decide (e.goal s n = some .queued)

theorem joins_cons (n : LoadIx) (ns : List LoadIx) (s : State) :
    e.joins (n :: ns) s = if e.goal s n = some .queued then n :: e.joins ns s else e.joins ns s := by
  simp only [joins, List.filter_cons, decide_eq_true_eq]

/-- The event at these loads in closed form. -/
def after (ns : List LoadIx) (s : State) : State :=
  withBlocks
    (Vector.ofFn fun n : LoadIx => if n ∈ ns then e.record s (entryNumber s ((e.joins ns s).idxOf n)) n else s.loads[n])
    (ns.foldl (e.sequence s) s.seq) (postAll s.timeBase (ns.filterMap (e.report s)) s.store) s

/-- The event at one load. -/
theorem act_eq (n : LoadIx) (s : State) :
    e.act n s = withBlocks (s.loads.set n (e.record s s.seq.counter n)) (e.sequence s s.seq n)
      (postAll s.timeBase (e.report s n).toList s.store) s := by
  unfold act record sequence report
  cases e.goal s n with
  | none => rfl
  | some new => simp only [moveLoad_setLoad]; rfl

theorem sequence_counter (s : State) (q : Sequencer) (n : LoadIx) :
    (e.sequence s q n).counter = if e.goal s n = some .queued then q.counter + 1 else q.counter := by
  have left : (q.onLeave n s.ws.globals.startGap s.loads[n].state).counter = q.counter := by
    cases s.loads[n].state <;> rfl
  unfold sequence
  cases e.goal s n with
  | none => rfl
  | some new => cases new <;> simp [-Fin.getElem_fin, Sequencer.onEnter, Sequencer.join, left]

/-- t stands as s does in all that an event at these loads depends on. -/
structure Undisturbed (ns : List LoadIx) (s t : State) : Prop where
  ws : t.ws = s.ws
  sev : t.sev = s.sev
  scan : t.scan = s.scan
  loads : ∀ m ∈ ns, t.loads[m] = s.loads[m]

variable {e} {ns : List LoadIx} {s t : State} (h : Undisturbed ns s t)
include h

theorem Undisturbed.goal {m : LoadIx} (mem : m ∈ ns) : e.goal t m = e.goal s m := e.goal_congr h.ws h.sev (h.loads m mem)

theorem Undisturbed.joins : e.joins ns t = e.joins ns s := List.filter_congr fun m mem => by rw [h.goal mem]

theorem Undisturbed.record {m : LoadIx} (mem : m ∈ ns) (number : Word) : e.record t number m = e.record s number m := by
  simp only [LoadEvent.record, h.goal mem, h.loads m mem, h.ws]

theorem Undisturbed.sequence (q : Sequencer) : ns.foldl (e.sequence t) q = ns.foldl (e.sequence s) q :=
  List.foldl_ext _ _ _ fun q m mem => by simp only [LoadEvent.sequence, h.goal mem, h.loads m mem, h.ws]

theorem Undisturbed.reports : ns.filterMap (e.report t) = ns.filterMap (e.report s) :=
  List.filterMap_congr fun m mem => by
    simp only [LoadEvent.report, h.goal mem, h.loads m mem, State.lastCurrent, h.scan]

omit h

/-- A load that does not join takes no entry number. -/
theorem record_of_not_join {n : LoadIx} (stays : e.goal s n ≠ some .queued) (number number' : Word) :
    e.record s number n = e.record s number' n := by
  unfold record
  cases goal : e.goal s n with
  | none => rfl
  | some new =>
    cases new with
    | queued => exact absurd goal stays
    | off | starting | on | shed | tripped | locked => rfl

/-- The first load takes the next entry number if it joins. -/
theorem record_first (n : LoadIx) (ns : List LoadIx) (s : State) :
    e.record s (entryNumber s ((e.joins (n :: ns) s).idxOf n)) n = e.record s s.seq.counter n := by
  by_cases join : e.goal s n = some .queued
  · simp [joins_cons, join, entryNumber]
  · exact record_of_not_join join _ _

/-- The entry numbers of the others count from what the first one leaves. -/
theorem entryNumber_others {n m : LoadIx} (other : m ≠ n) (h : Undisturbed ns s t)
    (counter : t.seq.counter = if e.goal s n = some .queued then s.seq.counter + 1 else s.seq.counter) :
    entryNumber s ((e.joins (n :: ns) s).idxOf m) = entryNumber t ((e.joins ns t).idxOf m) := by
  rw [h.joins]
  by_cases join : e.goal s n = some .queued
  · rw [joins_cons, if_pos join, List.idxOf_cons_ne _ other.symm, Nat.succ_eq_add_one,
      ← entryNumber_succ (by rw [counter, if_pos join])]
  · rw [joins_cons, if_neg join]
    simp only [entryNumber, counter, if_neg join]

/-- The event at one load, then at the others. -/
theorem after_cons (e : LoadEvent) (n : LoadIx) (ns : List LoadIx) (s : State) (fresh : n ∉ ns) :
    e.after (n :: ns) s = e.after ns (e.act n s) := by
  rw [act_eq]
  have h : Undisturbed ns s (withBlocks (s.loads.set n (e.record s s.seq.counter n)) (e.sequence s s.seq n)
      (postAll s.timeBase (e.report s n).toList s.store) s) :=
    ⟨rfl, rfl, rfl, fun m mem => set_other (fun same => fresh (by rwa [← same])) _ _⟩
  refine withBlocks_eq s ?_ ?_ ?_
  · rw [← record_first n ns s]
    refine ofFn_cons (f := fun m => e.record s (entryNumber s ((e.joins (n :: ns) s).idxOf m)) m) fresh fun m mem => ?_
    have other : m ≠ n := fun same => fresh (by rwa [← same])
    rw [record_first, h.record mem, ← entryNumber_others other h (e.sequence_counter s s.seq n)]
  · rw [h.sequence]; rfl
  · rw [h.reports, List.filterMap_cons]
    cases e.report s n <;> rfl

/-- The event at several loads is the event at each of them in turn. -/
theorem after_eq (e : LoadEvent) {ns : List LoadIx} (distinct : ns.Nodup) (s : State) : e.after ns s = s.eachLoad ns e.act := by
  refine eq_eachLoad (fun s => ?_) e.after_cons distinct s
  simp [after, withBlocks, postAll]

/-- Where no load joins and none starts, the sequencer is left as by loads that leave (R34, R40). -/
theorem sequence_leaving {s : State} (leaves : ∀ n new, e.goal s n = some new → new ≠ .queued ∧ new ≠ .starting) :
    ∀ {ns : List LoadIx}, ns.Nodup → ∀ q,
      ns.foldl (e.sequence s) q = seqWithout (ns.filter fun n => (e.goal s n).isSome) { s with seq := q }
  | [], _, q => (seqWithout_nil { s with seq := q }).symm
  | n :: ns, distinct, q => by
    obtain ⟨fresh, rest⟩ := List.nodup_cons.mp distinct
    rw [List.foldl_cons, sequence_leaving leaves rest]
    cases goal : e.goal s n with
    | none => simp only [sequence, goal, Option.isSome_none, List.filter_cons, Bool.false_eq_true, if_false]
    | some new =>
      have moves : (e.goal s n).isSome = true := by rw [goal]; rfl
      have enter : ∀ q : Sequencer, q.onEnter n s.ws.loads[n].priority new = q := by
        obtain ⟨notQueued, notStarting⟩ := leaves n new goal
        cases new <;> simp_all [Sequencer.onEnter]
      rw [List.filter_cons_of_pos (p := fun n => (e.goal s n).isSome) moves,
        seqWithout_cons fun mem => fresh (List.mem_of_mem_filter mem)]
      simp only [sequence, goal, enter]

/-- Where loads leave only OFF and SHED, for the queue or for SHED, the sequencer is left as by the loads that join (R32). -/
theorem sequence_joining {s : State}
    (joins : ∀ n new, e.goal s n = some new →
      (new = .queued ∨ new = .shed) ∧ s.loads[n].state ≠ .queued ∧ s.loads[n].state ≠ .starting) :
    ∀ (ns : List LoadIx) (q : Sequencer), ns.foldl (e.sequence s) q = seqWith (e.joins ns s) { s with seq := q }
  | [], q => (seqWith_nil { s with seq := q }).symm
  | n :: ns, q => by
    rw [List.foldl_cons, sequence_joining joins ns]
    cases goal : e.goal s n with
    | none => simp [sequence, joins_cons, goal]
    | some new =>
      obtain ⟨rfl | rfl, notQueued, notStarting⟩ := joins n new goal
      · have leave := onLeave_of_ne notQueued notStarting n s.ws.globals.startGap q
        rw [joins_cons, if_pos goal, seqWith_cons]
        simp only [sequence, goal, leave]
        rfl
      · have leave := onLeave_of_ne notQueued notStarting n s.ws.globals.startGap q
        rw [joins_cons, if_neg (by rw [goal]; decide)]
        simp only [sequence, goal, leave]
        rfl

end LoadEvent

/-! ### The four events of several loads -/

/-- Demand OFF (R9). -/
def offEvent (cause : Cause) : LoadEvent where
  demand _ := false
  goal s n := if demandOffMoves s.loads[n].state then some .off else none
  cause := cause
  goal_congr _ _ loads := by rw [loads]

/-- Demand ON, to a fitted load while KILL is deasserted (R7, R8). -/
def onEvent (cause : Cause) : LoadEvent where
  demand r := if r.state = .off ∨ r.state = .tripped then true else r.demand
  goal s n := if s.loads[n].state = .off then some (if s.isShed n then .shed else .queued) else none
  cause := cause
  goal_congr ws sev loads := by rw [loads, State.isShed, State.isShed, ws, sev]

/-- The load becomes shed (R24). -/
def shedEvent : LoadEvent where
  demand r := r.demand
  goal s n := if shedMoves s.loads[n].state then some .shed else none
  cause := .shed
  goal_congr _ _ loads := by rw [loads]

/-- The end of the restore hold (R25). -/
def restoreEvent : LoadEvent where
  demand r := r.demand
  goal s n := if s.loads[n].state = .shed ∧ s.isShed n = false then some .queued else none
  cause := .restore
  goal_congr ws sev loads := by rw [loads, State.isShed, State.isShed, ws, sev]

/-- The model's operations are these events at their load. -/
theorem demandOff_eq_act (cause : Cause) (n : LoadIx) (s : State) : s.demandOff cause n = (offEvent cause).act n s := by
  obtain ⟨out, eq⟩ | ⟨out, eq⟩ := s.demandOff_cases cause n
  · have moves : demandOffMoves s.loads[n].state = true := by obtain h | h | h | h := out <;> rw [h] <;> rfl
    exact eq.trans (LoadEvent.act_of_goal (offEvent cause) (if_pos moves)).symm
  · have stays : demandOffMoves s.loads[n].state = false := by obtain h | h | h := out <;> rw [h] <;> rfl
    exact eq.trans (LoadEvent.act_of_stay (offEvent cause) (if_neg (ne_true_of_eq_false stays))).symm

theorem offEvent_write (cause : Cause) (r : LoadRec) : (offEvent cause).write r = { r with demand := false } := rfl

theorem shedEvent_write (r : LoadRec) : shedEvent.write r = r := rfl

theorem restoreEvent_write (r : LoadRec) : restoreEvent.write r = r := rfl

theorem onEvent_write (cause : Cause) (r : LoadRec) :
    (onEvent cause).write r = if r.state = .off ∨ r.state = .tripped then { r with demand := true } else r := by
  change { r with demand := if r.state = LoadState.off ∨ r.state = LoadState.tripped then true else r.demand } = _
  split <;> rfl

theorem demandOn_eq_act (cause : Cause) {n : LoadIx} {s : State} (fitted : s.ws.loads[n].fitted = true)
    (kill : s.quals.kill.qualified = false) : s.demandOn cause n = (onEvent cause).act n s := by
  obtain ⟨refused | refused, -⟩ | ⟨-, -, ⟨off, eq⟩ | ⟨tripped, eq⟩ | ⟨notOff, notTripped, eq⟩⟩ := s.demandOn_cases cause n
  · exact absurd refused (by rw [kill]; decide)
  · exact absurd refused (by rw [fitted]; decide)
  · rw [eq, LoadEvent.act_of_goal _ (if_pos off), onEvent_write, if_pos (Or.inl off : s.loads[n].state = .off ∨ _)]; rfl
  · rw [eq, LoadEvent.act_of_stay _ (if_neg (by rw [tripped]; decide)), onEvent_write,
      if_pos (Or.inr tripped : _ ∨ s.loads[n].state = .tripped)]
    rfl
  · rw [eq, LoadEvent.act_of_stay _ (if_neg notOff), onEvent_write, if_neg (not_or.mpr ⟨notOff, notTripped⟩), setLoad_self]

theorem shedLoad_eq_act (n : LoadIx) (s : State) : s.shedLoad n = shedEvent.act n s := by
  obtain ⟨out, eq⟩ | ⟨notQueued, notStarting, notOn, eq⟩ := s.shedLoad_cases n
  · have moves : shedMoves s.loads[n].state = true := by obtain h | h | h := out <;> rw [h] <;> rfl
    rw [eq, LoadEvent.act_of_goal _ (if_pos moves)]
    exact congrArg _ (setLoad_self n s).symm
  · have stays : shedMoves s.loads[n].state ≠ true := by cases h : s.loads[n].state <;> simp_all [shedMoves]
    rw [eq, LoadEvent.act_of_stay _ (if_neg stays)]
    exact (setLoad_self n s).symm

theorem restoreLoad_eq_act (n : LoadIx) (s : State) : s.restoreLoad n = restoreEvent.act n s := by
  obtain ⟨shed, notShed, eq⟩ | ⟨stays, eq⟩ := s.restoreLoad_cases n
  · rw [eq, LoadEvent.act_of_goal _ (if_pos ⟨shed, notShed⟩)]
    exact congrArg _ (setLoad_self n s).symm
  · rw [eq, LoadEvent.act_of_stay _ (if_neg (by simpa [-Fin.getElem_fin, or_iff_not_imp_left] using stays))]
    exact (setLoad_self n s).symm

/-! ### The closed forms of the claims -/

/-- The reports of the loads that move, in their order. -/
theorem filterMap_eq_map_filter {f : LoadIx → Option Payload} {p : LoadIx → Bool} {g : LoadIx → Payload}
    (h : ∀ n, f n = if p n then some (g n) else none) (ns : List LoadIx) : ns.filterMap f = (ns.filter p).map g := by
  induction ns with
  | nil => rfl
  | cons n ns ih => cases moves : p n <;> simp [h n, moves, ih]

theorem contains_filter {α : Type} [DecidableEq α] (p : α → Bool) (l : List α) (x : α) :
    (l.filter p).contains x = (l.contains x && p x) := by
  rw [Bool.eq_iff_iff]
  simp

/-- Demand OFF to several loads (R9, R26). -/
theorem withDemandOff_eq (cause : Cause) {ns : List LoadIx} (distinct : ns.Nodup) (s : State) :
    withDemandOff cause ns s = s.eachLoad ns (State.demandOff cause) := by
  have op : State.demandOff cause = (offEvent cause).act := funext₂ (demandOff_eq_act cause)
  have moved : (fun n => ((offEvent cause).goal s n).isSome) = fun n => demandOffMoves s.loads[n].state := by
    funext n
    cases h : demandOffMoves s.loads[n].state <;> simp [-Fin.getElem_fin, offEvent, h]
  rw [op, ← LoadEvent.after_eq _ distinct]
  refine withBlocks_congr s (congrArg Vector.ofFn (funext fun n => ?_)) ?_ (congrArg (postAll s.timeBase · s.store) ?_)
  · by_cases mem : n ∈ ns
    · rw [if_pos mem, contains_filter, List.contains_iff_mem.mpr mem, Bool.true_and]
      cases moves : demandOffMoves s.loads[n].state with
      | true =>
        rw [if_pos rfl, LoadEvent.record_of_goal _ (if_pos moves), leftFor_eq]
        rw [offEvent_write, leave_demand s.loads[n] false]
        rfl
      | false =>
        rw [if_neg Bool.false_ne_true, if_pos rfl, LoadEvent.record_of_stay _ (if_neg (ne_true_of_eq_false moves))]
        rfl
    · simp [mem]
  · rw [LoadEvent.sequence_leaving _ distinct, moved]
    intro n new goal
    obtain ⟨-, same⟩ := Option.ite_none_right_eq_some.mp goal
    obtain rfl := Option.some.inj same
    decide
  · refine (filterMap_eq_map_filter (fun n => ?_) ns).symm
    cases h : demandOffMoves s.loads[n].state <;> simp [-Fin.getElem_fin, LoadEvent.report, offEvent, h]

/-- The loads that are shed (R24, R61). -/
theorem withShed_eq {ns : List LoadIx} (distinct : ns.Nodup) (s : State) :
    withShed ns s = s.eachLoad ns State.shedLoad := by
  have op : State.shedLoad = shedEvent.act := funext₂ shedLoad_eq_act
  have moved : (fun n => (shedEvent.goal s n).isSome) = fun n => shedMoves s.loads[n].state := by
    funext n
    cases h : shedMoves s.loads[n].state <;> simp [-Fin.getElem_fin, shedEvent, h]
  rw [op, ← LoadEvent.after_eq _ distinct]
  refine withBlocks_congr s (congrArg Vector.ofFn (funext fun n => ?_)) ?_ (congrArg (postAll s.timeBase · s.store) ?_)
  · by_cases mem : n ∈ ns
    · rw [if_pos mem, contains_filter, List.contains_iff_mem.mpr mem, Bool.true_and]
      cases moves : shedMoves s.loads[n].state with
      | true =>
        rw [if_pos rfl, LoadEvent.record_of_goal _ (if_pos moves), leftFor_eq, shedEvent_write]
        rfl
      | false =>
        rw [if_neg Bool.false_ne_true, LoadEvent.record_of_stay _ (if_neg (ne_true_of_eq_false moves)), shedEvent_write]
    · simp [mem]
  · rw [LoadEvent.sequence_leaving _ distinct, moved]
    intro n new goal
    obtain ⟨-, same⟩ := Option.ite_none_right_eq_some.mp goal
    obtain rfl := Option.some.inj same
    decide
  · refine (filterMap_eq_map_filter (fun n => ?_) ns).symm
    cases h : shedMoves s.loads[n].state <;> simp [-Fin.getElem_fin, LoadEvent.report, shedEvent, h]

/-- The loads that the end of the restore hold queues (R25, R67). -/
theorem withRestored_eq (s : State) : withRestored s = s.eachLoad allLoads State.restoreLoad := by
  have op : State.restoreLoad = restoreEvent.act := funext₂ restoreLoad_eq_act
  have all : ∀ n : LoadIx, n ∈ allLoads := by decide
  have moves_iff : ∀ n, (decide (s.loads[n].state = .shed) && !s.isShed n) = true ↔
      s.loads[n].state = .shed ∧ s.isShed n = false := by simp
  have joins : restoreEvent.joins allLoads s =
      allLoads.filter fun n => decide (s.loads[n].state = .shed) && !s.isShed n :=
    List.filter_congr fun n _ => by
      rw [Bool.eq_iff_iff, moves_iff, decide_eq_true_eq]
      simp [-Fin.getElem_fin, restoreEvent]
  rw [op, ← LoadEvent.after_eq _ (by decide)]
  refine withBlocks_congr s (congrArg Vector.ofFn (funext fun n => ?_)) ?_ (congrArg (postAll s.timeBase · s.store) ?_)
  · rw [if_pos (all n), contains_filter, List.contains_iff_mem.mpr (all n), Bool.true_and, joins]
    by_cases moves : s.loads[n].state = .shed ∧ s.isShed n = false
    · rw [if_pos ((moves_iff n).mpr moves), LoadEvent.record_of_goal _ (if_pos moves), restoreEvent_write,
        leave_of_idle (.inr moves.1)]
      rfl
    · rw [if_neg (mt (moves_iff n).mp moves), LoadEvent.record_of_stay _ (if_neg moves), restoreEvent_write]
  · rw [LoadEvent.sequence_joining, joins]
    intro n new goal
    obtain ⟨⟨shed, -⟩, same⟩ := Option.ite_none_right_eq_some.mp goal
    obtain rfl := Option.some.inj same
    exact ⟨.inl rfl, by rw [shed]; decide, by rw [shed]; decide⟩
  · refine (filterMap_eq_map_filter (fun n => ?_) allLoads).symm
    by_cases moves : s.loads[n].state = .shed ∧ s.isShed n = false
    · rw [if_pos ((moves_iff n).mpr moves), LoadEvent.report, show restoreEvent.goal s n = _ from if_pos moves, moves.1]
      rfl
    · rw [if_neg (mt (moves_iff n).mp moves), LoadEvent.report, show restoreEvent.goal s n = _ from if_neg moves]
      rfl

/-- Demand ON to several loads (R7, R8). -/
theorem withDemandOn_eq (cause : Cause) {ns : List LoadIx} (distinct : ns.Nodup) (s : State) :
    withDemandOn cause ns s = s.eachLoad ns (onEvent cause).act := by
  have joins : (onEvent cause).joins ns s =
      (ns.filter fun n => decide (s.loads[n].state = .off)).filter fun n => !s.isShed n := by
    rw [List.filter_filter]
    refine List.filter_congr fun n _ => ?_
    by_cases off : s.loads[n].state = .off <;> cases shed : s.isShed n <;> simp [-Fin.getElem_fin, onEvent, off, shed]
  rw [← LoadEvent.after_eq _ distinct]
  refine withBlocks_congr s (congrArg Vector.ofFn (funext fun n => ?_)) ?_ (congrArg (postAll s.timeBase · s.store) ?_)
  · by_cases mem : n ∈ ns
    · rw [if_pos mem, contains_filter, List.contains_iff_mem.mpr mem, Bool.true_and, Bool.true_and, joins]
      by_cases off : s.loads[n].state = .off
      · rw [if_pos (decide_eq_true off), LoadEvent.record_of_goal _ (if_pos off), onEvent_write,
          if_pos (Or.inl off : s.loads[n].state = .off ∨ _), leave_demand, leave_of_idle (.inl off)]
        cases s.isShed n <;> rfl
      · rw [if_neg (mt of_decide_eq_true off), LoadEvent.record_of_stay _ (if_neg off), onEvent_write]
        simp only [off, false_or, decide_eq_true_eq]
    · simp [mem]
  · rw [LoadEvent.sequence_joining, joins]
    intro n new goal
    obtain ⟨off, same⟩ := Option.ite_none_right_eq_some.mp goal
    obtain rfl := Option.some.inj same
    exact ⟨by cases s.isShed n <;> simp, by rw [off]; decide, by rw [off]; decide⟩
  · refine (filterMap_eq_map_filter (fun n => ?_) ns).symm
    by_cases off : s.loads[n].state = .off
    · rw [if_pos (decide_eq_true off), LoadEvent.report, show (onEvent cause).goal s n = _ from if_pos off, off]
      rfl
    · rw [if_neg (mt of_decide_eq_true off), LoadEvent.report, show (onEvent cause).goal s n = _ from if_neg off]
      rfl

end Sys2Proof.Proofs
end

section
/-! PROOFS. The depth, the host lost and the qualified inputs in the words of the claims, and the obligations about the expiries
of timers and about saves. -/

namespace Sys2Proof.Proofs

open Sys2Proof.Machine Sys2Proof.Safety Sys2Proof.Claims

/-! ### The shed depth (R59 to R62) -/

/-- The greatest contribution is the depth that the model forms (R59). -/
theorem greatest_eq (s : State) : greatest s = s.formedDepth := by
  simp only [greatest, contributions, allLadders, List.map_cons, List.map_nil, List.cons_append, List.nil_append,
    List.foldl_cons, List.foldl_nil, State.formedDepth, State.ladderContribution, State.shedContribution, Nat.zero_max,
    Nat.max_assoc]

/-- The contributor of the depth that is formed is the first in the order of R60. -/
theorem contributorAt_eq (s : State) : contributorAt s s.formedDepth = s.contributorOf s.formedDepth := by
  have reached : s.formedDepth = s.ladderContribution 0 ∨ s.formedDepth = s.ladderContribution 1 ∨
      s.formedDepth = s.ladderContribution 2 ∨ s.formedDepth = s.ladderContribution 3 ∨
      s.formedDepth = s.shedContribution ∨ s.formedDepth = s.sev.hostFloor := by
    unfold State.formedDepth; omega
  generalize s.formedDepth = d at reached
  have each : contributions s = [(.ladder 0, s.ladderContribution 0), (.ladder 1, s.ladderContribution 1),
      (.ladder 2, s.ladderContribution 2), (.ladder 3, s.ladderContribution 3), (.shedInput, s.shedContribution),
      (.hostFloor, s.sev.hostFloor)] := rfl
  simp only [contributorAt, State.contributorOf, each]
  by_cases zero : d = 0
  · simp [zero]
  by_cases k0 : s.ladderContribution 0 = d
  · simp [zero, k0]
  by_cases k1 : s.ladderContribution 1 = d
  · simp [zero, k0, k1]
  by_cases k2 : s.ladderContribution 2 = d
  · simp [zero, k0, k1, k2]
  by_cases k3 : s.ladderContribution 3 = d
  · simp [zero, k0, k1, k2, k3]
  by_cases shed : s.shedContribution = d
  · simp [zero, k0, k1, k2, k3, shed]
  · have floor : s.sev.hostFloor = d := by omega
    simp [zero, k0, k1, k2, k3, shed, floor]

/-- The claims' forming of the depth is the model's (R59 to R62). -/
theorem withDepth_eq (s : State) : withDepth s = s.formDepth := by
  have distinct : ∀ p : LoadIx → Bool, (allLoads.filter p).Nodup := fun p => List.Nodup.filter p (by decide)
  simp only [withDepth, greatest_eq, contributorAt_eq, withShed_eq (distinct _)]
  obtain ⟨same, eq⟩ | ⟨rise, eq⟩ | ⟨fall, eq⟩ := s.formDepth_cases <;> rw [eq]
  · rw [if_pos same]
  · rw [if_neg (Nat.ne_of_gt rise), if_pos rise]; rfl
  · rw [if_neg (Nat.ne_of_lt fall), if_neg (Nat.lt_asymm fall)]; rfl

/-! ### The host is lost (R27, R120, R148) -/

/-- The orphan action of a load (R27). -/
theorem orphaned_eq (s : State) (n : LoadIx) : orphaned s n = s.orphanAction n := by
  have alone : [n].Nodup := List.nodup_singleton n
  unfold orphaned State.orphanAction
  cases fitted : s.ws.loads[n].fitted with
  | false => rfl
  | true =>
    rw [if_pos rfl, if_pos rfl]
    cases s.ws.loads[n].orphan with
    | keep => rfl
    | off => exact withDemandOff_eq .orphan alone s
    | on =>
      cases kill : s.quals.kill.qualified with
      | true => simp only [State.demandOn, kill, Bool.true_or, if_true]
      | false =>
        simp only [Bool.false_eq_true, if_false, demandOn_eq_act .orphan fitted kill]
        exact withDemandOn_eq .orphan alone s

/-- The report flow, the orphan actions and the grant at the loss of the host (R27, R37, R120, R148). -/
theorem hostLost_eq (s : State) : hostLost s = s.loseHost := by
  have orphans : orphaned = fun t n => State.orphanAction n t := funext₂ orphaned_eq
  rw [hostLost, withGrant_eq, orphans]
  rfl

/-! ### Qualified inputs (R14, R15, R197, R198) -/

/-- An active-low input is asserted exactly at a low pin. -/
theorem lowAsserted_eq (q : Qualifier) : q.lowAsserted = decide (q.pin = .low) := by
  unfold Qualifier.lowAsserted
  cases q.pin <;> rfl

theorem highAsserted_eq_false (q : Qualifier) : q.highAsserted = false ↔ q.pin = .low := by
  unfold Qualifier.highAsserted
  cases q.pin <;> simp [PinLevel.isHigh]

theorem pgAdopted_eq (n : LoadIx) (s : State) : pgAdopted n s = s.pgQualifies n := by
  simp only [pgAdopted, State.pgQualifies, withTrip_eq, highAsserted_eq_false]
  rfl

theorem killAdopted_eq (s : State) : killAdopted s = s.killQualifies := by
  simp only [killAdopted, State.killQualifies, lowAsserted_eq, withGrant_eq, withDemandOff_eq .kill (by decide : allLoads.Nodup)]
  rfl

theorem shedAdopted_eq (s : State) : shedAdopted s = s.shedQualifies := by
  simp only [shedAdopted, State.shedQualifies, lowAsserted_eq, withGrant_eq, withDepth_eq]
  rfl

/-! ### The settle time and the conversion after a pause -/

/-- The settle time of a load in STARTING ends in a trip where its feedback is missing, and otherwise in ON (R12). -/
theorem settleExpires_eq {n : LoadIx} {s : State} (starting : s.loads[n].state = .starting) :
    s.settleExpires n = withGrant
      (if s.ws.loads[n].feedback = .required ∧ s.quals.pg[n].qualified = false then withTrip .noFeedback n s
        else withSettled n s) := by
  rw [State.settleExpires, withGrant_eq, withTrip_eq, withSettled_eq starting]

/-- Time changes no qualified state. -/
theorem elapse_pg_qualified (d : Nat) (s : State) (n : LoadIx) :
    (s.elapse d).quals.pg[n].qualified = s.quals.pg[n].qualified := by
  cases runs : s.phase.timeRuns with
  | false => rw [State.elapse_still runs]
  | true => rw [State.elapse_pg runs, Qualifier.elapse_qualified]

theorem atExpiry_pg_qualified (t : Timer) (s : State) (n : LoadIx) :
    (atExpiry t s).quals.pg[n].qualified = s.quals.pg[n].qualified := by
  rw [atExpiry_eq]
  exact elapse_pg_qualified _ s n

theorem atExpiry_ws (t : Timer) (s : State) : (atExpiry t s).ws = s.ws := by
  rw [atExpiry_eq, State.reachExpiry_ws]

/-- The conversion of entry 0 begins in a list that is not empty (R76). -/
theorem begin_zero_eq {list : List ChanIx} (some : list ≠ []) (c : Scanner) : c.begin list 0 = convertingEntry list 0 c := by
  have first : 0 < list.length := List.length_pos_iff.mpr some
  rw [Scanner.begin_of_lt first, convertingEntry, List.getD_eq_getElem _ _ first]

/-! ### Saves (R180, R186, R187) -/

theorem nextGeneration_eq (s : State) : nextGeneration s.prof.activeGeneration =
    if generationNow s = 0xFFFFFFFF#32 then generationNow s else generationNow s + 1 := by
  have now : s.prof.activeGeneration = generationNow s := by
    simp only [Profile.activeGeneration, generationNow, Option.isNone_iff_eq_none]
  rw [nextGeneration, now]

/-- The begin of a save (R186). -/
theorem saveBegun_eq (s : State) : saveBegun s = s.beginSave := by
  simp only [saveBegun, State.beginSave, nextGeneration_eq]

/-- The end of a save (R187). -/
theorem saveEnded_eq (v : Save) (verified : Bool) (s : State) : saveEnded v verified s = s.endSave v verified := by
  cases verified <;> rfl

/-! ### The obligations -/

/-- Settles O45: at its moment the restore hold ends as the model's restore of each load in turn. -/
theorem restoreHoldExpiryQueuesUnshedLoads : Obligations.RestoreHoldExpiryQueuesUnshedLoads := by
  refine fun s h => ⟨_, rfl, ?_⟩
  rw [takeGrant_of_expires h, withGrant_eq, withRestored_eq]
  exact lineTaken_of_expires h State.holdExpires

/-- Settles O46: at its moment the silence timer ends in the model's loss of the host. -/
theorem silenceExpiryDeclaresTheHostLost : Obligations.SilenceExpiryDeclaresTheHostLost := by
  refine fun s up h => ⟨_, rfl, ?_⟩
  rw [takeGrant_of_expires h, if_pos up, hostLost_eq]
  exact lineTaken_of_expires h State.loseHost

/-- Settles O48: one closed form for each of the three kinds of qualified input. -/
theorem qualifiedInputsActOnTheirBlocks : Obligations.QualifiedInputsActOnTheirBlocks := by
  refine fun s => ⟨fun n h => ⟨_, rfl, ?_⟩, fun h => ⟨_, rfl, ?_⟩, fun h => ⟨_, rfl, ?_⟩⟩ <;>
    rw [takeGrant_of_expires h]
  · rw [pgAdopted_eq]
    exact lineTaken_of_expires h (State.pgQualifies n)
  · rw [killAdopted_eq]
    exact lineTaken_of_expires h State.killQualifies
  · rw [shedAdopted_eq]
    exact lineTaken_of_expires h State.shedQualifies

/-- Settles O44: the load is still in its state at the moment of the expiry, which fixes the branch of the model's event. -/
theorem settleAndBackoffExpire : Obligations.SettleAndBackoffExpire := by
  refine fun n s => ⟨fun starting h => ?_, fun tripped h => ⟨_, rfl, ?_⟩⟩
  · have taken := lineTaken_of_expires h (State.settleExpires n)
    rw [settleExpires_eq ((atExpiry_load_state _ s n).trans starting), atExpiry_ws, atExpiry_pg_qualified] at taken
    refine ⟨_, rfl, fun required lost => ?_, fun fine => ?_⟩ <;> rw [takeGrant_of_expires h, if_pos starting]
    · rwa [if_pos ⟨required, lost⟩] at taken
    · have fine' : ¬ (s.ws.loads[n].feedback = .required ∧ s.quals.pg[n].qualified = false) := by
        rintro ⟨required, lost⟩
        obtain none | good := fine
        · exact absurd (none.symm.trans required) (by decide)
        · exact absurd (good.symm.trans lost) (by decide)
      rwa [if_neg fine'] at taken
  · rw [takeGrant_of_expires h, if_pos tripped, withBackoffEnded_eq ((atExpiry_load_state _ s n).trans tripped)]
    exact lineTaken_of_expires h (State.backoffExpires n)

/-- Settles O39: the three events at their moments; entry 0 is that of a list that is not empty. -/
theorem pauseGapAndCleanRunExpire : Obligations.PauseGapAndCleanRunExpire := by
  refine fun s => ⟨fun paused h list => ⟨_, rfl, ?_⟩, fun h => ⟨_, rfl, ?_⟩, fun n on h => ⟨_, rfl, ?_⟩⟩ <;>
    rw [takeGrant_of_expires h]
  · rw [if_pos paused, ← begin_zero_eq (by rwa [atExpiry_ws])]
    exact lineTaken_of_expires h State.pauseExpires
  · rw [withGrant_eq]
    exact lineTaken_of_expires h State.gapExpires
  · rw [if_pos on]
    exact lineTaken_of_expires h (State.cleanRunExpires n)

/-- Settles O33: the answer of the profile store to SAVE in its two cases, and the save's end at its moment. -/
theorem saveWritesTheSlotThatIsNotActive : Obligations.SaveWritesTheSlotThatIsNotActive := by
  refine ⟨fun f s h empty => ⟨fun busy => ⟨_, rfl, ?_⟩, fun free => ⟨_, _, rfl, rfl, ?_⟩⟩, fun v verified s save h => ?_⟩
  · refine executed_takeRequest h answerSave ?_
    have busy' : (taken s).prof.save.isSome = true := busy
    rw [answerSave, empty, if_neg (by simp), if_pos busy']
    rfl
  · refine executed_takeRequest h answerSave ?_
    have free' : (taken s).prof.save = none := free
    rw [answerSave, empty, if_neg (by simp), if_neg (by simp [free']), nextGeneration_eq, saveBegun_eq]
    rfl
  · have ends : exec (.saveEnd verified) s = .next (s.whenDue v.timer (State.endSave v verified)) := by
      change execSaveEnd verified s = _
      simp only [execSaveEnd, takeGrant_of_expires h, save]
    exact ⟨_, ends, saveEnded_eq v verified _ ▸ lineTaken_of_expires h (State.endSave v verified)⟩

end Sys2Proof.Proofs
end

section
/-! PROOFS. How time runs: what passes at a step of an empty queue, what passes at a command, and that none passes beyond what
R1 allows. -/

namespace Sys2Proof.Proofs

open Sys2Proof.Machine Sys2Proof.Safety Sys2Proof.Claims

/-! ### What d milliseconds change (R1, R190, R191) -/

theorem timeRuns_eq_true {p : Phase} (h : p = .selecting ∨ p = .running) : p.timeRuns = true := by
  obtain rfl | rfl := h <;> rfl

theorem timeRuns_eq_false {p : Phase} (h : p = .held ∨ p = .unpowered) : p.timeRuns = false := by
  obtain rfl | rfl := h <;> rfl

theorem later_eq (d : Nat) (t : Timer) : later d t = t.elapse d := by
  cases t with
  | running left =>
    by_cases passed : left < d
    · simp [later, passed, Nat.not_le.mpr passed]
    · simp [later, passed, Nat.not_lt.mp passed]
  | stopped | overdue => rfl

/-- From the end of a reset on, the time that passes is the claims' (R1). -/
theorem elapsed_elapse (d : Nat) {s : State} (h : s.phase = .selecting ∨ s.phase = .running) : Elapsed d s (s.elapse d) := by
  have runs := timeRuns_eq_true h
  have loads := fun n => State.elapse_load (d := d) runs n
  have pg := fun n => State.elapse_pg (d := d) runs n
  simp only [Elapsed, later_eq]
  refine ⟨State.elapse_timeBase runs, ?_, loads, ?_, ?_, ?_, ?_, ?_, ?_, ?_, ?_, pg, State.elapse_ws d s,
    State.elapse_watches d s, State.elapse_store d s, State.elapse_phase d s, State.elapse_pending d s,
    State.elapse_choices d s⟩ <;>
    simp only [State.elapse, runs, if_true] <;> rfl

/-! ### The time that a command takes (R1) -/

/-- From s to t as much time passes as R1 allows every running timer of s. -/
def TimePasses (s t : State) : Prop := ∃ d, InTime d s ∧ t.timeBase = s.timeBase + BitVec.ofNat 32 d

theorem TimePasses.of_eq {s t : State} (h : t.timeBase = s.timeBase) : TimePasses s t :=
  ⟨0, inTime_zero s, by rw [h]; simp⟩

/-- As much time as is in time, while a reset is held none. -/
theorem TimePasses.of_elapse {d : Nat} {s t : State} (h : s.allows d = true) (eq : t.timeBase = (s.elapse d).timeBase) :
    TimePasses s t := by
  cases runs : s.phase.timeRuns with
  | false => exact .of_eq (by rw [eq, State.elapse_still runs])
  | true => exact ⟨d, inTime_iff.mpr h, by rw [eq, State.elapse_timeBase runs]⟩

/-- An expiry takes the time of its timer, or one millisecond more, and its event takes none (log 2). -/
theorem TimePasses.whenDue {event : State → State} (still : ∀ u, (event u).timeBase = u.timeBase) (t : Timer) (s : State) :
    TimePasses s (s.whenDue t event) := by
  obtain ⟨-, eq⟩ | ⟨-, inTime, eq⟩ := s.whenDue_cases t event
  · exact .of_eq (by rw [eq])
  · obtain moment | ⟨room, moment⟩ := s.reachExpiry_cases t.left
    · exact .of_elapse inTime (by rw [eq, State.kick_timeBase, still, moment])
    · exact .of_elapse room (by rw [eq, State.kick_timeBase, still, moment])

/-- As for an expiry, of a load or a block that may be in another state. -/
theorem TimePasses.whenDue_if {event : State → State} (still : ∀ u, (event u).timeBase = u.timeBase) (t : Timer) (s : State)
    (p : Prop) [Decidable p] : TimePasses s (if p then s.whenDue t event else s) := by
  split
  · exact .whenDue still t s
  · exact .of_eq rfl

/-- A request takes no time where what its owner answers takes none. -/
theorem takeRequest_timeBase {own : List Byte → State → Answer} (still : ∀ b u, (own b u).state.timeBase = u.timeBase)
    (offers : Bool) (kind : Byte) (s : State) : (s.takeRequest offers kind own).timeBase = s.timeBase := by
  rw [State.takeRequest_after_grant]
  obtain ⟨-, eq⟩ | ⟨f, -, ⟨-, eq⟩ | ⟨-, e, -, eq⟩ | ⟨-, -, eq⟩⟩ :=
    State.takeRequest_cases offers kind own s.takeGrant_grantDue <;> rw [eq]
  · simp
  · simp
  · simp
  · unfold State.executeRequest
    cases offers <;> simp [still]

/-! ### No request takes time -/

@[simp] theorem refuse_state (st : Status) (s : State) : (Answer.refuse st s).state = s := rfl

@[simp] theorem ok_state (s : State) (fields : List Byte) : (Answer.ok s fields).state = s := rfl

section

variable (b : List Byte) (s : State)

theorem answerHello_timeBase : (answerHello b s).state.timeBase = s.timeBase := by
  unfold answerHello
  split <;> simp [State.openSession]

theorem answerGrant_timeBase : (answerGrant b s).state.timeBase = s.timeBase := by
  unfold answerGrant
  split
  · rfl
  · split <;> rfl

theorem answerAck_timeBase : (answerAck b s).state.timeBase = s.timeBase := by
  unfold answerAck
  split
  · rfl
  · split <;> rfl

theorem answerResend_timeBase : (answerResend b s).state.timeBase = s.timeBase := by
  unfold answerResend
  split <;> rfl

theorem answerSnapshot_timeBase : (answerSnapshot b s).state.timeBase = s.timeBase := by
  unfold answerSnapshot
  split <;> rfl

theorem answerDemandOn_timeBase (ns : List LoadIx) : (answerDemandOn ns s).state.timeBase = s.timeBase := by
  unfold answerDemandOn
  dsimp only
  split <;> simp [demandReply]

theorem answerDemand_timeBase : (answerDemand b s).state.timeBase = s.timeBase := by
  unfold answerDemand
  repeat' split
  all_goals simp [demandReply, answerDemandOn_timeBase s]

theorem answerClear_timeBase : (answerClear b s).state.timeBase = s.timeBase := by
  unfold answerClear
  repeat' split
  all_goals rfl

theorem answerSetLoad_timeBase : (answerSetLoad b s).state.timeBase = s.timeBase := by
  unfold answerSetLoad
  repeat' split
  all_goals rfl

theorem answerReadLoad_timeBase : (answerReadLoad b s).state.timeBase = s.timeBase := by
  unfold answerReadLoad
  repeat' split
  all_goals rfl

theorem answerForceLevel_timeBase : (answerForceLevel b s).state.timeBase = s.timeBase := by
  unfold answerForceLevel
  repeat' split
  all_goals simp

theorem answerSetLadder_timeBase : (answerSetLadder b s).state.timeBase = s.timeBase := by
  unfold answerSetLadder
  repeat' split
  all_goals simp [State.configureLadder]

theorem answerSetCutoff_timeBase : (answerSetCutoff b s).state.timeBase = s.timeBase := by
  have still : ∀ table, (s.configureCutoff table).timeBase = s.timeBase := by
    intro table
    simp only [State.configureCutoff, State.considerGrant_timeBase]
    split <;> simp
  unfold answerSetCutoff
  repeat' split
  all_goals simp [still]

theorem answerReadSeverity_timeBase : (answerReadSeverity b s).state.timeBase = s.timeBase := by
  unfold answerReadSeverity
  repeat' split
  all_goals rfl

theorem answerSetScan_timeBase : (answerSetScan b s).state.timeBase = s.timeBase := by
  unfold answerSetScan
  repeat' split
  all_goals simp [State.configureScan]

theorem answerSetChannel_timeBase : (answerSetChannel b s).state.timeBase = s.timeBase := by
  unfold answerSetChannel
  repeat' split
  all_goals rfl

theorem answerReadChannels_timeBase : (answerReadChannels b s).state.timeBase = s.timeBase := by
  unfold answerReadChannels
  repeat' split
  all_goals rfl

theorem answerSetWatch_timeBase : (answerSetWatch b s).state.timeBase = s.timeBase := by
  unfold answerSetWatch
  repeat' split
  all_goals rfl

theorem answerAckWatch_timeBase : (answerAckWatch b s).state.timeBase = s.timeBase := by
  unfold answerAckWatch
  repeat' split
  all_goals rfl

theorem answerReadWatch_timeBase : (answerReadWatch b s).state.timeBase = s.timeBase := by
  unfold answerReadWatch
  repeat' split
  all_goals rfl

theorem answerSetGlobals_timeBase : (answerSetGlobals b s).state.timeBase = s.timeBase := by
  unfold answerSetGlobals State.configureGlobals State.retimeSilence
  repeat' split
  all_goals simp

theorem answerReadSystem_timeBase : (answerReadSystem b s).state.timeBase = s.timeBase := by
  unfold answerReadSystem
  split <;> rfl

theorem answerReadLink_timeBase : (answerReadLink b s).state.timeBase = s.timeBase := by
  unfold answerReadLink
  repeat' split
  all_goals rfl

theorem answerSave_timeBase : (answerSave b s).state.timeBase = s.timeBase := by
  unfold answerSave
  repeat' split
  all_goals rfl

theorem answerReset_timeBase : (answerReset b s).state.timeBase = s.timeBase := by
  unfold answerReset
  split <;> rfl

end

/-! ### No event of an expiry takes time -/

theorem interbyteExpires_timeBase (s : State) : s.interbyteExpires.timeBase = s.timeBase := rfl

theorem pauseExpires_timeBase (s : State) : s.pauseExpires.timeBase = s.timeBase := rfl

theorem gapExpires_timeBase (s : State) : s.gapExpires.timeBase = s.timeBase := by
  simp [State.gapExpires]

theorem holdExpires_timeBase (s : State) : s.holdExpires.timeBase = s.timeBase := by
  simp [State.holdExpires]

theorem loseHost_timeBase (s : State) : s.loseHost.timeBase = s.timeBase := by
  simp [State.loseHost]

theorem pgQualifies_timeBase (n : LoadIx) (s : State) : (s.pgQualifies n).timeBase = s.timeBase := by
  unfold State.pgQualifies
  dsimp only
  split <;> simp

theorem killQualifies_timeBase (s : State) : s.killQualifies.timeBase = s.timeBase := by
  unfold State.killQualifies
  dsimp only
  split <;> simp

theorem shedQualifies_timeBase (s : State) : s.shedQualifies.timeBase = s.timeBase := by
  unfold State.shedQualifies
  dsimp only
  split <;> simp

theorem endSave_timeBase (v : Save) (verified : Bool) (s : State) : (s.endSave v verified).timeBase = s.timeBase := by
  cases verified <;> rfl

theorem completeStartup_timeBase (asInh : PinLevel) (s : State) : (s.completeStartup asInh).timeBase = s.timeBase := by
  have reports : ∀ u : State, u.startupReports.timeBase = u.timeBase := by
    intro u
    unfold State.startupReports
    dsimp only
    repeat' split
    all_goals simp
  have started : ∀ u : State, (u.startRunning asInh).timeBase = u.timeBase := by
    intro u
    unfold State.startRunning
    dsimp only
    split <;> simp
  rw [State.completeStartup, started, reports]
  rfl

/-! ### The time of each command -/

theorem execHello_timeBase (s : State) : ∃ t, execHello s = .next t ∧ t.timeBase = s.timeBase := by
  unfold execHello
  dsimp only
  split <;> exact ⟨_, rfl, by simp [answerHello_timeBase]⟩

theorem execBadKindFrame_timeBase (s : State) : ∃ t, execBadKindFrame s = .next t ∧ t.timeBase = s.timeBase := by
  unfold execBadKindFrame
  dsimp only
  split <;> exact ⟨_, rfl, by simp⟩

theorem execByteArrival_timeBase (b : Byte) (stopError : Bool) (s : State) :
    ∃ t, execByteArrival b stopError s = .next t ∧ t.timeBase = s.timeBase := by
  refine ⟨_, rfl, ?_⟩
  repeat' split
  all_goals simp [State.framingError]

/-- The end of a frame takes no time, unless it is the reply that resets the part. -/
theorem execLineFrees_timeBase {s : State} (plain : ∀ r, s.link.tx = .reply r → r.resets = false) :
    ∃ t, execLineFrees s = .next t ∧ t.timeBase = s.timeBase := by
  unfold execLineFrees
  split
  case h_1 => exact ⟨_, rfl, rfl⟩
  case h_2 => exact ⟨_, rfl, by simp⟩
  case h_3 r sending => exact ⟨_, rfl, by simp [plain r sending]⟩

theorem execReadingArrival_timeBase (raw : Nat) (s : State) :
    ∃ t, execReadingArrival raw s = .next t ∧ t.timeBase = s.timeBase := by
  unfold execReadingArrival
  dsimp only
  split
  · exact ⟨_, rfl, by simp⟩
  · exact ⟨_, rfl, by simp⟩
  · exact ⟨_, rfl, by split <;> simp⟩

theorem execLadderEvaluation_timeBase (s : State) : ∃ t, execLadderEvaluation s = .next t ∧ t.timeBase = s.timeBase := by
  unfold execLadderEvaluation
  split <;> exact ⟨_, rfl, by simp⟩

theorem execWatchEvaluation_timeBase (s : State) : ∃ t, execWatchEvaluation s = .next t ∧ t.timeBase = s.timeBase := by
  unfold execWatchEvaluation
  split <;> exact ⟨_, rfl, by simp⟩

theorem execLoadReading_timeBase (s : State) : ∃ t, execLoadReading s = .next t ∧ t.timeBase = s.timeBase := by
  unfold execLoadReading
  split <;> exact ⟨_, rfl, by simp⟩

/-- Start-up completes at the end of its 30 ms and no later (R192). -/
theorem execProfileSelection_timePasses (asInh : PinLevel) (s : State) :
    ∃ t, execProfileSelection asInh s = .next t ∧ TimePasses s t := by
  refine ⟨_, rfl, ?_⟩
  split
  case isTrue h => exact .of_elapse h.2.2 (by rw [State.kick_timeBase, completeStartup_timeBase])
  case isFalse => exact .of_eq rfl

/-- The end of a save takes the time of its timer, as every expiry does. -/
theorem execSaveEnd_timePasses {s : State} (same : s.takeGrant = s) (verified : Bool) :
    ∃ t, execSaveEnd verified s = .next t ∧ TimePasses s t := by
  unfold execSaveEnd
  rw [same]
  dsimp only
  split
  · exact ⟨_, rfl, .of_eq rfl⟩
  · exact ⟨_, rfl, .whenDue (endSave_timeBase _ verified) _ s⟩

/-- No command takes more time than R1 allows, where it takes no reset, begins no start-up and meets no grant that must be made
before it. -/
theorem exec_timePasses (c : Instr) (s : State) (noReset : ¬ takesReset c s) (noStart : ∀ x y z, c ≠ .resetEnd x y z)
    (settled : followsGrant c = true → ¬ GrantDue s) : ∃ t, exec c s = .next t ∧ TimePasses s t := by
  have request : ∀ {own : List Byte → State → Answer}, (∀ b u, (own b u).state.timeBase = u.timeBase) →
      ∀ offers kind, TimePasses s (s.takeRequest offers kind own) :=
    fun still offers kind => .of_eq (takeRequest_timeBase still offers kind s)
  have same : followsGrant c = true → s.takeGrant = s := fun h => takeGrant_of_not_GrantDue (settled h)
  have still : ∀ {e : Host.Outcome State Fault Refusal}, (∃ t, e = .next t ∧ t.timeBase = s.timeBase) →
      ∃ t, e = .next t ∧ TimePasses s t := fun ⟨t, eq, time⟩ => ⟨t, eq, .of_eq time⟩
  cases c with
  | hello => exact still (execHello_timeBase s)
  | grant => exact ⟨_, rfl, request answerGrant_timeBase _ _⟩
  | ack => exact ⟨_, rfl, request answerAck_timeBase _ _⟩
  | resend => exact ⟨_, rfl, request answerResend_timeBase _ _⟩
  | snapshot => exact ⟨_, rfl, request answerSnapshot_timeBase _ _⟩
  | demand => exact ⟨_, rfl, request answerDemand_timeBase _ _⟩
  | clear => exact ⟨_, rfl, request answerClear_timeBase _ _⟩
  | setLoad => exact ⟨_, rfl, request answerSetLoad_timeBase _ _⟩
  | readLoad => exact ⟨_, rfl, request answerReadLoad_timeBase _ _⟩
  | forceLevel => exact ⟨_, rfl, request answerForceLevel_timeBase _ _⟩
  | setLadder => exact ⟨_, rfl, request answerSetLadder_timeBase _ _⟩
  | setCutoff => exact ⟨_, rfl, request answerSetCutoff_timeBase _ _⟩
  | readSeverity => exact ⟨_, rfl, request answerReadSeverity_timeBase _ _⟩
  | setScan => exact ⟨_, rfl, request answerSetScan_timeBase _ _⟩
  | setChannel => exact ⟨_, rfl, request answerSetChannel_timeBase _ _⟩
  | readChannels => exact ⟨_, rfl, request answerReadChannels_timeBase _ _⟩
  | setWatch => exact ⟨_, rfl, request answerSetWatch_timeBase _ _⟩
  | ackWatch => exact ⟨_, rfl, request answerAckWatch_timeBase _ _⟩
  | readWatch => exact ⟨_, rfl, request answerReadWatch_timeBase _ _⟩
  | setGlobals => exact ⟨_, rfl, request answerSetGlobals_timeBase _ _⟩
  | readSystem => exact ⟨_, rfl, request answerReadSystem_timeBase _ _⟩
  | readLink => exact ⟨_, rfl, request answerReadLink_timeBase _ _⟩
  | save => exact ⟨_, rfl, request answerSave_timeBase _ _⟩
  | reset => exact ⟨_, rfl, request answerReset_timeBase _ _⟩
  | badKindFrame => exact still (execBadKindFrame_timeBase s)
  | byteArrival b stopError => exact still (execByteArrival_timeBase b stopError s)
  | interbyteTimeout => exact ⟨_, rfl, by rw [same rfl]; exact .whenDue interbyteExpires_timeBase _ s⟩
  | lineFrees => 
    refine still (execLineFrees_timeBase fun r sending => ?_)
    exact Bool.eq_false_iff.mpr fun resets => noReset (.inr (.inr (.inr ⟨rfl, r, sending, resets⟩)))
  | powerOnReset => exact absurd (.inl rfl) noReset
  | pinReset => exact absurd (.inr (.inl rfl)) noReset
  | resetEnd x y z => exact absurd rfl (noStart x y z)
  | profileSelection asInh => exact execProfileSelection_timePasses asInh s
  | readingArrival raw => exact still (execReadingArrival_timeBase raw s)
  | pauseExpiry => exact ⟨_, rfl, by rw [same rfl]; exact .whenDue_if pauseExpires_timeBase _ s _⟩
  | ladderEvaluation => exact still (execLadderEvaluation_timeBase s)
  | watchEvaluation => exact still (execWatchEvaluation_timeBase s)
  | loadReading => exact still (execLoadReading_timeBase s)
  | startGrant => exact ⟨_, rfl, .of_eq s.takeGrant_timeBase⟩
  | settleExpiry n => exact ⟨_, rfl, by rw [same rfl]; exact .whenDue_if (State.settleExpires_timeBase n) _ s _⟩
  | cleanRunExpiry n => exact ⟨_, rfl, by rw [same rfl]; exact .whenDue_if (State.cleanRunExpires_timeBase n) _ s _⟩
  | backoffExpiry n => exact ⟨_, rfl, by rw [same rfl]; exact .whenDue_if (State.backoffExpires_timeBase n) _ s _⟩
  | gapExpiry => exact ⟨_, rfl, by rw [same rfl]; exact .whenDue gapExpires_timeBase _ s⟩
  | restoreHoldExpiry => exact ⟨_, rfl, by rw [same rfl]; exact .whenDue holdExpires_timeBase _ s⟩
  | silenceExpiry => exact ⟨_, rfl, by rw [same rfl]; exact .whenDue_if loseHost_timeBase _ s _⟩
  | saveEnd verified => exact execSaveEnd_timePasses (same rfl) verified
  | pgPinChange n level => exact ⟨_, rfl, .of_eq rfl⟩
  | pgQualified n => exact ⟨_, rfl, by rw [same rfl]; exact .whenDue (pgQualifies_timeBase n) _ s⟩
  | killPinChange level => exact ⟨_, rfl, .of_eq rfl⟩
  | killQualified => exact ⟨_, rfl, by rw [same rfl]; exact .whenDue killQualifies_timeBase _ s⟩
  | shedPinChange level => exact ⟨_, rfl, .of_eq rfl⟩
  | shedQualified => exact ⟨_, rfl, by rw [same rfl]; exact .whenDue shedQualifies_timeBase _ s⟩
  | powerLoss => exact absurd (.inr (.inr (.inl rfl))) noReset

/-! ### Expiries that another must precede (log 3) -/

/-- A timer that passes another one's bound does not expire. -/
theorem whenDue_of_late {t : Timer} {s : State} (late : ¬ InTime (timeLeft t) s) (event : State → State) :
    s.whenDue t event = s := by
  obtain ⟨-, eq⟩ | ⟨-, inTime, -⟩ := s.whenDue_cases t event
  · exact eq
  · exact absurd (inTime_iff.mpr inTime) (timeLeft_eq t ▸ late)

/-- An expiry that another must precede does not take place. -/
theorem exec_of_late {c : Instr} {s : State} (running : timerOf s c ≠ .stopped) (late : ¬ InTime (timeLeft (timerOf s c)) s)
    (settled : ¬ GrantDue s) : exec c s = .next s := by
  have same := takeGrant_of_not_GrantDue settled
  have stays : ∀ {t : Timer}, timerOf s c = t → ∀ event, s.whenDue t event = s := fun same => same ▸ whenDue_of_late late
  have staysIf : ∀ {t : Timer}, timerOf s c = t → ∀ event (p : Prop) [Decidable p],
      (if p then s.whenDue t event else s) = s := fun same event p _ => by rw [stays same, ite_self]
  suffices stands : ∃ t, exec c s = .next t ∧ t = s by
    obtain ⟨t, eq, rfl⟩ := stands
    exact eq
  cases c with
  | interbyteTimeout => exact ⟨_, rfl, by rw [same]; exact stays rfl _⟩
  | pauseExpiry => exact ⟨_, rfl, by rw [same]; exact staysIf rfl _ _⟩
  | settleExpiry n => exact ⟨_, rfl, by rw [same]; exact staysIf rfl _ _⟩
  | cleanRunExpiry n => exact ⟨_, rfl, by rw [same]; exact staysIf rfl _ _⟩
  | backoffExpiry n => exact ⟨_, rfl, by rw [same]; exact staysIf rfl _ _⟩
  | gapExpiry => exact ⟨_, rfl, by rw [same]; exact stays rfl _⟩
  | restoreHoldExpiry => exact ⟨_, rfl, by rw [same]; exact stays rfl _⟩
  | silenceExpiry => exact ⟨_, rfl, by rw [same]; exact staysIf rfl _ _⟩
  | pgQualified n => exact ⟨_, rfl, by rw [same]; exact stays rfl _⟩
  | killQualified => exact ⟨_, rfl, by rw [same]; exact stays rfl _⟩
  | shedQualified => exact ⟨_, rfl, by rw [same]; exact stays rfl _⟩
  | profileSelection asInh => exact ⟨_, rfl, if_neg fun h => late (inTime_iff.mpr (timeLeft_eq s.startup ▸ h.2.2))⟩
  | saveEnd verified =>
    refine ⟨s, ?_, rfl⟩
    change execSaveEnd verified s = _
    cases save : s.prof.save with
    | none => simp only [execSaveEnd, same, save]
    | some v => simp only [execSaveEnd, same, save, stays (t := v.timer) (by simp [timerOf, save])]
  | _ => exact absurd rfl running

/-! ### One millisecond of an empty queue (log 1) -/

/-- A timer that is not due waits for one millisecond more. -/
theorem waits_one {t : Timer} (notDue : t.isDue = false) : waits 1 t = true := by
  cases t with
  | stopped => rfl
  | running left => simp [waits]
  | overdue => simp [Timer.isDue] at notDue

theorem waitsExactly_one {t : Timer} (notDue : t.isDue = false) : waitsExactly 1 t = true := by
  cases t with
  | stopped => rfl
  | running left =>
    cases left with
    | zero => simp [Timer.isDue] at notDue
    | succ left => simp [waitsExactly]
  | overdue => simp [Timer.isDue] at notDue

/-- Where no step is due, no expiry is. -/
theorem dueExpiries_of_no_dueStep {s : State} (none : s.dueStep = none) : ∀ p ∈ s.dueExpiries, p.1 = false := by
  unfold State.dueStep at none
  split at none
  · simp at none
  · rename_i missing
    intro p mem
    simpa using List.find?_eq_none.mp missing p (List.mem_append_right _ mem)

/-- A timer that is not due while it runs is not due. -/
theorem isDue_eq_false_of_running {t : Timer} (h : t.isRunning = true → t.isDue = false) : t.isDue = false := by
  cases t with
  | stopped => rfl
  | running left => exact h rfl
  | overdue => exact h rfl

/-- Where no step is due, a lawful state has a millisecond before every timer's bound: a timer runs only where its expiry would be
due (R1, R3, R76, R147, R191). -/
theorem inTime_one {s : State} (reset : ResetOk s) (loads : LoadsOk s) (scanner : ScannerOk s) (link : LinkOk s)
    (none : s.dueStep = none) : InTime 1 s := by
  have due := dueExpiries_of_no_dueStep none
  have all : ∀ n : LoadIx, n ∈ allLoads := by decide
  simp only [State.dueExpiries, List.forall_mem_append, List.forall_mem_map, List.forall_mem_cons, Bool.and_eq_false_imp,
    decide_eq_true_eq] at due
  obtain ⟨⟨⟨⟨settle, cleanRun⟩, backoff⟩, pg⟩, kill, shed, gap, hold, pause, interbyte, silence, startup, save, -⟩ := due
  obtain ⟨-, held, -, started⟩ := reset
  obtain ⟨-, -, -, pauseRuns, -⟩ := scanner
  obtain ⟨-, -, -, -, -, -, -, -, -, silenceRuns, -⟩ := link
  refine ⟨fun n => ?_, waits_one gap, waits_one hold, waits_one (isDue_eq_false_of_running fun h => pause (pauseRuns.mp h)),
    waits_one interbyte, waits_one (isDue_eq_false_of_running fun h => silence (silenceRuns h)), waits_one kill, waits_one shed,
    fun v saved => waits_one ?_, waitsExactly_one ?_⟩
  · obtain ⟨settleRuns, backoffRuns, cleanRunRuns, -⟩ := loads.1 n
    exact ⟨waits_one (isDue_eq_false_of_running fun h => settle n (all n) (settleRuns.mp h)),
      waits_one (isDue_eq_false_of_running fun h => backoff n (all n) (backoffRuns.mp h)),
      waits_one (isDue_eq_false_of_running fun h => cleanRun n (all n) (cleanRunRuns h)), waits_one (pg n (all n))⟩
  · simpa [Profile.saveDue, show s.prof.save = some v from saved] using save
  · cases phase : s.phase with
    | selecting => exact startup phase
    | running => rw [(started phase).2]; rfl
    | held => rw [(held (.inl phase)).2.1]; rfl
    | unpowered => rw [(held (.inr phase)).2.1]; rfl

/-! ### The obligation -/

/-- Settles O2: what an empty queue does, what passing time changes, and that it passes no timer's bound. -/
theorem emptyQueueRunsDueStepOrOneMillisecond : Obligations.EmptyQueueRunsDueStepOrOneMillisecond := by
  refine ⟨fun s empty => ⟨fun c due => ?_, fun none held => ?_, fun none runs => ?_⟩,
    fun d s => ⟨elapsed_elapse d, fun held => ?_⟩,
    fun c s t eq noReset noStart settled => ?_, fun c s running late settled => exec_of_late running late settled,
    fun s reset loads scanner link none => inTime_one reset loads scanner link none⟩
  · simp only [step, empty, due]
  · simp only [step, empty, none, State.elapse_still (timeRuns_eq_false held)]
  · exact ⟨s.elapse 1, by simp only [step, empty, none], elapsed_elapse 1 runs⟩
  · exact State.elapse_still (timeRuns_eq_false held)
  · obtain ⟨u, eq', passes⟩ := exec_timePasses c s noReset noStart settled
    obtain rfl := Host.Outcome.next.inj (eq.symm.trans eq')
    exact passes

end Sys2Proof.Proofs
end

section
/-! PROOFS. What one event at one load can leave, said once: its record stays lawful, it never starts, and it joins the queue only
out of OFF, SHED and TRIPPED. Each operation of the model at a load is such an event. -/

namespace Sys2Proof.Proofs

open Sys2Proof.Machine Sys2Proof.Safety Sys2Proof.Claims

/-! ### The event at one load -/

/-- A load in a state out of which it may join the queue (R7, R21, R25). -/
def Idle (s : State) (n : LoadIx) : Prop :=
  s.loads[n].state = .off ∨ s.loads[n].state = .shed ∨ s.loads[n].state = .tripped

/-- A record under which no demand ON appears while KILL is asserted (R8, R26). -/
def DemandAllowed (s : State) (n : LoadIx) (r : LoadRec) : Prop :=
  r.demand = true → s.loads[n].demand = true ∨ s.quals.kill.qualified = false

/-- What one event at load n, but a grant, makes of s: its record is written within its state, or it is written and the load moves.
A load that moves goes not to STARTING, to ON only out of STARTING, and to QUEUED only where it may join and is not shed; and
what it makes of a lawful record is lawful. -/
inductive LoadChange (s : State) (n : LoadIx) : State → Prop
  | write (r : LoadRec) (state : r.state = s.loads[n].state) (entry : r.entry = s.loads[n].entry)
      (demand : DemandAllowed s n r) (lawful : LoadOk s.ws.loads[n] s.loads[n] → LoadOk s.ws.loads[n] r) :
      LoadChange s n (s.setLoad n r)
  | move (r : LoadRec) (new : LoadState) (cause : Cause) (state : r.state = s.loads[n].state) (notStarting : new ≠ .starting)
      (runs : new = .on → s.loads[n].state = .starting) (joins : new = .queued → Idle s n ∧ s.isShed n = false)
      (demand : DemandAllowed s n r)
      (lawful : LoadOk s.ws.loads[n] s.loads[n] →
        LoadOk s.ws.loads[n] (LoadRec.enter s.ws.loads[n] s.ws.globals.cleanRun s.seq.counter new r.leave)) :
      LoadChange s n ((s.setLoad n r).moveLoad n new cause)

/-- An event at a load writes its record, moves it in the queue and the slot, and posts, no more. -/
structure SameFrame (s t : State) : Prop where
  ws : t.ws = s.ws
  sev : t.sev = s.sev
  scan : t.scan = s.scan
  quals : t.quals = s.quals
  phase : t.phase = s.phase

theorem SameFrame.refl (s : State) : SameFrame s s := ⟨rfl, rfl, rfl, rfl, rfl⟩

theorem SameFrame.trans {s t u : State} (h : SameFrame s t) (g : SameFrame t u) : SameFrame s u :=
  ⟨g.ws.trans h.ws, g.sev.trans h.sev, g.scan.trans h.scan, g.quals.trans h.quals, g.phase.trans h.phase⟩

/-- Where neither the cutoffs, the priorities nor the depth change, the same loads are shed (R5). -/
theorem SameFrame.isShed {s t : State} (h : SameFrame s t) (n : LoadIx) : t.isShed n = s.isShed n := by
  simp only [State.isShed, h.ws, h.sev]

namespace LoadChange

variable {s t : State} {n : LoadIx}

theorem frame (h : LoadChange s n t) : SameFrame s t := by
  cases h <;> exact ⟨rfl, rfl, rfl, rfl, rfl⟩

theorem other (h : LoadChange s n t) {m : LoadIx} (ne : m ≠ n) : t.loads[m] = s.loads[m] := by
  cases h with
  | write => exact set_other ne _ _
  | move => rw [State.moveLoad_other ne]; exact set_other ne _ _

/-- What an event says of the sequencer and of the state and entry of its load: all stand, or the load has moved. -/
theorem moved (h : LoadChange s n t) :
    (t.loads[n].state = s.loads[n].state ∧ t.loads[n].entry = s.loads[n].entry ∧ t.seq = s.seq) ∨
      ∃ new, t.loads[n].state = new ∧ new ≠ .starting ∧ (new = .on → s.loads[n].state = .starting) ∧
        (new = .queued → Idle s n ∧ s.isShed n = false ∧ t.loads[n].entry = some s.seq.counter) ∧
        t.seq = (s.seq.onLeave n s.ws.globals.startGap s.loads[n].state).onEnter n s.ws.loads[n].priority new := by
  cases h with
  | write r state entry =>
    have self : (s.setLoad n r).loads[n] = r := set_self _ _ _
    exact .inl ⟨by rw [self, state], by rw [self, entry], rfl⟩
  | move r new cause state notStarting runs joins =>
    rw [moveLoad_setLoad]
    dsimp only
    rw [set_self, LoadRec.enter_state, state]
    refine .inr ⟨new, rfl, notStarting, runs, fun join => ⟨(joins join).1, (joins join).2, ?_⟩, rfl⟩
    rw [join]; rfl

theorem lawful (h : LoadChange s n t) (ok : LoadOk s.ws.loads[n] s.loads[n]) : LoadOk t.ws.loads[n] t.loads[n] := by
  cases h with
  | write r _ _ _ lawful => rw [show (s.setLoad n r).loads[n] = r from set_self _ _ _]; exact lawful ok
  | move r new cause _ _ _ _ _ lawful => rw [moveLoad_setLoad]; dsimp only; rw [set_self]; exact lawful ok

theorem demand (h : LoadChange s n t) : DemandAllowed s n t.loads[n] := by
  cases h with
  | write r _ _ demand => rw [show (s.setLoad n r).loads[n] = r from set_self _ _ _]; exact demand
  | move r new cause _ _ _ _ demand =>
    rw [moveLoad_setLoad]; dsimp only; rw [set_self]
    intro on
    rw [(LoadRec.enter_keeps _ _ _ _ _).1, r.leave_keeps.2.1] at on
    exact demand on

end LoadChange

/-! ### The laws of a record at each kind of event -/

section

variable {c : LoadConfig} {r : LoadRec} (ok : LoadOk c r) (cleanRun : Nat) (number : Word)
include ok

theorem loadOk_off (moves : demandOffMoves r.state = true) :
    LoadOk c (LoadRec.enter c cleanRun number .off { r with demand := false }.leave) := by
  cases h : r.state <;> simp_all [LoadOk, LoadRec.leave, LoadRec.enter, demandOffMoves]

theorem loadOk_shed (moves : shedMoves r.state = true) : LoadOk c (LoadRec.enter c cleanRun number .shed r.leave) := by
  cases h : r.state <;> simp_all [LoadOk, LoadRec.leave, LoadRec.enter, shedMoves]

theorem loadOk_settled (starting : r.state = .starting) : LoadOk c (LoadRec.enter c cleanRun number .on r.leave) := by
  cases h : r.state <;> simp_all [LoadOk, LoadRec.leave, LoadRec.enter]

/-- A trip clears whatever streaks led to it (R19). -/
theorem loadOk_tripped (runs : r.state = .starting ∨ r.state = .on) (within : r.retries + 1 ≤ c.budget) (above invalid : Nat)
    (cause : TripCause) :
    LoadOk c (LoadRec.enter c cleanRun number .tripped
      { r with overStreak := above, senseStreak := invalid, retries := r.retries + 1, tripCause := some cause }.leave) := by
  cases h : r.state <;> simp_all [LoadOk, LoadRec.leave, LoadRec.enter]

theorem loadOk_locked (runs : r.state = .starting ∨ r.state = .on) (spent : c.budget < r.retries + 1) (above invalid : Nat)
    (cause : TripCause) :
    LoadOk c (LoadRec.enter c cleanRun number .locked
      { r with overStreak := above, senseStreak := invalid, retries := r.retries + 1, tripCause := some cause }.leave) := by
  cases h : r.state <;> simp_all [LoadOk, LoadRec.leave, LoadRec.enter] <;> omega

theorem loadOk_demandOn (off : r.state = .off) (fitted : c.fitted = true) {new : LoadState}
    (joins : new = .shed ∨ new = .queued) :
    LoadOk c (LoadRec.enter c cleanRun number new { r with demand := true }.leave) := by
  obtain rfl | rfl := joins <;> simp_all [LoadOk, LoadRec.leave, LoadRec.enter]

theorem loadOk_restored (shed : r.state = .shed) : LoadOk c (LoadRec.enter c cleanRun number .queued r.leave) := by
  simp_all [LoadOk, LoadRec.leave, LoadRec.enter]

theorem loadOk_backoffEnded (tripped : r.state = .tripped) {new : LoadState}
    (goal : (r.demand = false ∧ new = .off) ∨ (r.demand = true ∧ (new = .shed ∨ new = .queued))) :
    LoadOk c (LoadRec.enter c cleanRun number new { r with backoff := .stopped }.leave) := by
  obtain ⟨off, rfl⟩ | ⟨on, rfl | rfl⟩ := goal <;> simp_all [LoadOk, LoadRec.leave, LoadRec.enter]

theorem loadOk_cleared (locked : r.state = .locked) :
    LoadOk c (LoadRec.enter c cleanRun number .off { r with demand := false, retries := 0 }.leave) := by
  simp_all [LoadOk, LoadRec.leave, LoadRec.enter]

omit ok

/-- In STARTING and ON the streaks may take any value below their ends (R11, R13, R18). -/
theorem loadOk_streaks (ok : LoadOk c r) (runs : r.state = .starting ∨ r.state = .on) {above invalid : Nat}
    (aboveFits : above = 0 ∨ above < c.confirm) (invalidFits : invalid ≤ 7) :
    LoadOk c { r with overStreak := above, senseStreak := invalid } := by
  obtain h | h := runs <;> simp_all [LoadOk]

theorem loadOk_overStreak (ok : LoadOk c r) : r.overStreak = 0 ∨ r.overStreak < c.confirm := by
  obtain ⟨-, -, -, -, -, above, -⟩ := ok
  exact above

/-- A demand OFF is recorded in OFF, TRIPPED and LOCKED (R9), a demand ON in TRIPPED (R7). -/
theorem loadOk_demand (ok : LoadOk c r) {on : Bool}
    (recorded : (r.state = .off ∧ on = false) ∨ r.state = .tripped ∨ r.state = .locked) :
    LoadOk c { r with demand := on } := by
  obtain ⟨h, rfl⟩ | h | h := recorded <;> simp_all [LoadOk]

theorem loadOk_cleanRunEnded (ok : LoadOk c r) (on : r.state = .on) :
    LoadOk c { r with retries := 0, cleanRun := .stopped } := by
  simp_all [LoadOk]

/-- The laws of a load in OFF do not depend on its configuration, once retries and streaks are 0 (R29). -/
theorem loadOk_configured (ok : LoadOk c r) (off : r.state = .off) (new : LoadConfig) :
    LoadOk new { r with retries := 0, overStreak := 0, senseStreak := 0 } := by
  simp_all [LoadOk]

theorem loadOk_reset (c : LoadConfig) : LoadOk c LoadRec.reset := by
  simp [LoadOk, LoadRec.reset]

/-- Time takes no timer that runs out of running (R1). -/
theorem loadOk_elapse (ok : LoadOk c r) (d : Nat) : LoadOk c (r.elapse d) := by
  simpa [LoadOk, LoadRec.elapse] using ok

theorem loadOk_granted (ok : LoadOk c r) (queued : r.state = .queued) (cleanRun : Nat) (number : Word) :
    LoadOk c (LoadRec.enter c cleanRun number .starting { r with entry := none }) := by
  simp_all [LoadOk, LoadRec.enter]

end

/-! ### Each operation at a load is such an event -/

section

variable {s : State} {n : LoadIx}

theorem demandAllowed_same {r : LoadRec} (h : r.demand = s.loads[n].demand) : DemandAllowed s n r :=
  fun on => .inl (h ▸ on)

theorem demandAllowed_off {r : LoadRec} (h : r.demand = false) : DemandAllowed s n r :=
  fun on => by simp [h] at on

theorem setLoad_setLoad (r r' : LoadRec) : (s.setLoad n r).setLoad n r' = s.setLoad n r' := by
  simp [State.setLoad]

theorem setLoad_load (r : LoadRec) : (s.setLoad n r).loads[n] = r := set_self _ _ _

/-- A record that stands is an event too. -/
theorem LoadChange.same : LoadChange s n s := by
  simpa only [setLoad_self] using LoadChange.write s.loads[n] rfl rfl (demandAllowed_same rfl) id

/-- A move with the record as it stands. -/
theorem LoadChange.moveLoad (new : LoadState) (cause : Cause) (notStarting : new ≠ .starting)
    (runs : new = .on → s.loads[n].state = .starting) (joins : new = .queued → Idle s n ∧ s.isShed n = false)
    (lawful : LoadOk s.ws.loads[n] s.loads[n] →
      LoadOk s.ws.loads[n] (LoadRec.enter s.ws.loads[n] s.ws.globals.cleanRun s.seq.counter new s.loads[n].leave)) :
    LoadChange s n (s.moveLoad n new cause) := by
  simpa only [setLoad_self] using
    LoadChange.move s.loads[n] new cause rfl notStarting runs joins (demandAllowed_same rfl) lawful

theorem loadChange_demandOff (cause : Cause) : LoadChange s n (s.demandOff cause n) := by
  obtain ⟨out, eq⟩ | ⟨out, eq⟩ := s.demandOff_cases cause n <;> rw [eq]
  · have moves : demandOffMoves s.loads[n].state = true := by obtain h | h | h | h := out <;> rw [h] <;> rfl
    exact .move _ .off cause rfl (by decide) (by simp) (by simp) (demandAllowed_off rfl) fun ok => loadOk_off ok _ _ moves
  · refine .write _ rfl rfl (demandAllowed_off rfl) fun ok => loadOk_demand ok ?_
    obtain h | h := out
    exacts [.inl ⟨h, rfl⟩, .inr h]

theorem loadChange_demandOn (cause : Cause) : LoadChange s n (s.demandOn cause n) := by
  obtain ⟨-, eq⟩ | ⟨kill, fitted, ⟨off, eq⟩ | ⟨tripped, eq⟩ | ⟨-, -, eq⟩⟩ := s.demandOn_cases cause n <;> rw [eq]
  · exact .same
  · cases shed : s.isShed n
    · exact .move _ .queued cause rfl (by decide) (by simp) (fun _ => ⟨.inl off, shed⟩) (fun _ => .inr kill)
        fun ok => loadOk_demandOn ok _ _ off fitted (.inr rfl)
    · exact .move _ .shed cause rfl (by decide) (by simp) (by simp) (fun _ => .inr kill)
        fun ok => loadOk_demandOn ok _ _ off fitted (.inl rfl)
  · exact .write _ rfl rfl (fun _ => .inr kill) fun ok => loadOk_demand ok (.inr (.inl tripped))
  · exact .same

theorem loadChange_shedLoad : LoadChange s n (s.shedLoad n) := by
  obtain ⟨out, eq⟩ | ⟨-, -, -, eq⟩ := s.shedLoad_cases n <;> rw [eq]
  · have moves : shedMoves s.loads[n].state = true := by obtain h | h | h := out <;> rw [h] <;> rfl
    exact .moveLoad .shed .shed (by decide) (by simp) (by simp) fun ok => loadOk_shed ok _ _ moves
  · exact .same

theorem loadChange_restoreLoad : LoadChange s n (s.restoreLoad n) := by
  obtain ⟨shed, notShed, eq⟩ | ⟨-, eq⟩ := s.restoreLoad_cases n <;> rw [eq]
  · exact .moveLoad .queued .restore (by decide) (by simp) (fun _ => ⟨.inr (.inl shed), notShed⟩)
      fun ok => loadOk_restored ok _ _ shed
  · exact .same

theorem loadChange_orphanAction : LoadChange s n (s.orphanAction n) := by
  unfold State.orphanAction
  split
  · split
    exacts [.same, loadChange_demandOff .orphan, loadChange_demandOn .orphan]
  · exact .same

theorem loadChange_autostartLoad : LoadChange s n (s.autostartLoad n) := by
  unfold State.autostartLoad
  split
  exacts [loadChange_demandOn .autostart, .same]

/-- A trip in STARTING or ON, with the streaks that led to it (R19). -/
theorem loadChange_trip_streaks (runs : s.loads[n].state = .starting ∨ s.loads[n].state = .on) (cause : TripCause)
    (above invalid : Nat) :
    LoadChange s n
      (State.trip cause n (s.setLoad n { s.loads[n] with overStreak := above, senseStreak := invalid })) := by
  obtain ⟨within, eq⟩ | ⟨spent, eq⟩ := State.trip_cases cause n
    (s.setLoad n { s.loads[n] with overStreak := above, senseStreak := invalid }) <;> rw [eq, setLoad_setLoad]
  all_goals simp only [setLoad_load, State.setLoad_ws] at *
  · exact .move _ .tripped _ rfl (by decide) (by simp) (by simp) (demandAllowed_same rfl)
      fun ok => loadOk_tripped ok _ _ runs within _ _ _
  · exact .move _ .locked _ rfl (by decide) (by simp) (by simp) (demandAllowed_same rfl)
      fun ok => loadOk_locked ok _ _ runs spent _ _ _

theorem loadChange_trip (runs : s.loads[n].state = .starting ∨ s.loads[n].state = .on) (cause : TripCause) :
    LoadChange s n (s.trip cause n) := by
  have trips := loadChange_trip_streaks runs cause s.loads[n].overStreak s.loads[n].senseStreak
  rwa [show s.setLoad n _ = s from setLoad_self n s] at trips

theorem loadChange_streaks (runs : s.loads[n].state = .starting ∨ s.loads[n].state = .on) {above invalid : Nat}
    (aboveFits : LoadOk s.ws.loads[n] s.loads[n] → above = 0 ∨ above < s.ws.loads[n].confirm)
    (invalidFits : LoadOk s.ws.loads[n] s.loads[n] → invalid ≤ 7) :
    LoadChange s n (s.setLoad n { s.loads[n] with overStreak := above, senseStreak := invalid }) :=
  .write _ rfl rfl (demandAllowed_same rfl) fun ok => loadOk_streaks ok runs (aboveFits ok) (invalidFits ok)

theorem loadChange_judgeCurrent (runs : s.loads[n].state = .starting ∨ s.loads[n].state = .on) (limit : Nat)
    (cause : TripCause) (v : Int) : LoadChange s n (s.judgeCurrent n limit cause v) := by
  obtain ⟨-, eq⟩ | ⟨-, -, eq⟩ | ⟨-, -, fits, eq⟩ | ⟨-, -, -, eq⟩ := s.judgeCurrent_cases n limit cause v <;> rw [eq]
  · exact loadChange_streaks runs loadOk_overStreak (fun _ => Nat.zero_le 7)
  · exact loadChange_streaks runs (fun _ => .inl rfl) (fun _ => Nat.zero_le 7)
  · exact loadChange_streaks runs (fun _ => .inr fits) (fun _ => Nat.zero_le 7)
  · exact loadChange_trip_streaks runs cause _ _

theorem loadChange_countSenseFault (runs : s.loads[n].state = .starting ∨ s.loads[n].state = .on) :
    LoadChange s n (s.countSenseFault n) := by
  obtain ⟨fits, eq⟩ | ⟨-, eq⟩ := s.countSenseFault_cases n <;> rw [eq]
  · exact loadChange_streaks runs loadOk_overStreak (fun _ => by omega)
  · exact loadChange_trip_streaks runs .senseFault _ _

/-- The settle time ends in a trip or in ON (R12). -/
theorem loadChange_settled (starting : s.loads[n].state = .starting) (p : Prop) [Decidable p] :
    LoadChange s n (if p then s.trip .noFeedback n else s.moveLoad n .on .settled) := by
  split
  · exact loadChange_trip (.inl starting) .noFeedback
  · exact .moveLoad .on .settled (by decide) (fun _ => starting) (by simp) fun ok => loadOk_settled ok _ _ starting

/-- The backoff ends in OFF, SHED or QUEUED (R21). -/
theorem loadChange_backoffEnded (tripped : s.loads[n].state = .tripped) :
    LoadChange s n
      (State.moveLoad n (if !s.loads[n].demand then .off else if s.isShed n then .shed else .queued) .backoffEnd
        (s.setLoad n { s.loads[n] with backoff := .stopped })) := by
  cases demand : s.loads[n].demand
  · exact .move _ .off _ rfl (by decide) (by simp) (by simp) (demandAllowed_same rfl)
      fun ok => loadOk_backoffEnded ok _ _ tripped (.inl ⟨demand, rfl⟩)
  cases shed : s.isShed n
  · exact .move _ .queued _ rfl (by decide) (by simp) (fun _ => ⟨.inr (.inr tripped), shed⟩) (demandAllowed_same rfl)
      fun ok => loadOk_backoffEnded ok _ _ tripped (.inr ⟨demand, .inr rfl⟩)
  · exact .move _ .shed _ rfl (by decide) (by simp) (by simp) (demandAllowed_same rfl)
      fun ok => loadOk_backoffEnded ok _ _ tripped (.inr ⟨demand, .inl rfl⟩)

theorem loadChange_clearLoad (locked : s.loads[n].state = .locked) : LoadChange s n (s.clearLoad n) :=
  .move _ .off .clear rfl (by decide) (by simp) (by simp) (demandAllowed_off rfl) fun ok => loadOk_cleared ok _ _ locked

theorem loadChange_cleanRunExpires (on : s.loads[n].state = .on) : LoadChange s n (s.cleanRunExpires n) :=
  .write _ rfl rfl (demandAllowed_same rfl) fun ok => loadOk_cleanRunEnded ok on

end

/-! ### Events at several loads -/

/-- One event at each of these loads, in this order. -/
inductive LoadChanges : State → List LoadIx → State → Prop
  | nil (s : State) : LoadChanges s [] s
  | cons {s t u : State} {n : LoadIx} {ns : List LoadIx} (head : LoadChange s n t) (rest : LoadChanges t ns u) :
      LoadChanges s (n :: ns) u

/-- One event. -/
theorem LoadChange.changes {s t : State} {n : LoadIx} (h : LoadChange s n t) : LoadChanges s [n] t := .cons h (.nil t)

/-- An operation that is an event at each load is one at several of them. -/
theorem loadChanges_eachLoad {op : LoadIx → State → State} (change : ∀ n s, LoadChange s n (op n s)) :
    ∀ (ns : List LoadIx) (s : State), LoadChanges s ns (s.eachLoad ns op)
  | [], s => .nil s
  | n :: ns, s => .cons (change n s) (loadChanges_eachLoad change ns (op n s))

namespace LoadChanges

theorem frame {s t : State} {ns : List LoadIx} (h : LoadChanges s ns t) : SameFrame s t := by
  induction h with
  | nil s => exact .refl s
  | cons head _ ih => exact head.frame.trans ih

end LoadChanges

end Sys2Proof.Proofs
end

section
/-! PROOFS. The start queue and the start slot under what events, grants and time make of them: their laws, and the order of
joining, counted from the state in which a command began. -/

namespace Sys2Proof.Proofs

open Sys2Proof.Machine Sys2Proof.Safety Sys2Proof.Claims

/-! ### The laws of the sequencer (R32, R33, R35, R40) -/

/-- The queue holds each QUEUED load once and no other, lowest priority value first, and the start slot is held by the load in
STARTING, with no gap while it is held. -/
structure SeqOk (w : Vector LoadConfig 16) (loads : Vector LoadRec 16) (q : Sequencer) : Prop where
  distinct : (q.queue.map (·.load)).Nodup
  sorted : (q.queue.map (·.priority)).Pairwise (· ≤ ·)
  entries : ∀ e ∈ q.queue, loads[e.load].state = .queued ∧ loads[e.load].entry = some e.number ∧
    e.priority = w[e.load].priority
  queued : ∀ n : LoadIx, loads[n].state = .queued → n ∈ q.queue.map (·.load)
  slot : ∀ n : LoadIx, loads[n].state = .starting ↔ q.slot = some n
  gap : q.slot.isSome = true → q.gap = .stopped

/-- No demand is ON under KILL (R26). -/
def KillOk (s : State) : Prop := s.quals.kill.qualified = true → ∀ n : LoadIx, s.loads[n].demand = false

/-- The laws of the load controller, part by part. -/
theorem loadsOk_iff {s : State} :
    LoadsOk s ↔ (∀ n : LoadIx, LoadOk s.ws.loads[n] s.loads[n]) ∧ SeqOk s.ws.loads s.loads s.seq ∧ KillOk s := by
  constructor
  · rintro ⟨records, ⟨distinct, sorted, entries, queued⟩, slot, gap, kill⟩
    exact ⟨records, ⟨distinct, sorted, entries, queued, slot, gap⟩, kill⟩
  · rintro ⟨records, ⟨distinct, sorted, entries, queued, slot, gap⟩, kill⟩
    exact ⟨records, ⟨distinct, sorted, entries, queued⟩, slot, gap, kill⟩

namespace SeqOk

variable {w : Vector LoadConfig 16} {loads : Vector LoadRec 16} {q : Sequencer} (h : SeqOk w loads q)
include h

/-- The laws look at the state and the entry number of a record alone. -/
theorem congr {loads' : Vector LoadRec 16} (state : ∀ n : LoadIx, loads'[n].state = loads[n].state)
    (entry : ∀ n : LoadIx, loads'[n].entry = loads[n].entry) : SeqOk w loads' q where
  distinct := h.distinct
  sorted := h.sorted
  entries e mem := by rw [state, entry]; exact h.entries e mem
  queued n queued := h.queued n (state n ▸ queued)
  slot n := by rw [state]; exact h.slot n
  gap := h.gap

/-- A record that keeps its state and entry number. -/
theorem write {n : LoadIx} {r : LoadRec} (state : r.state = loads[n].state) (entry : r.entry = loads[n].entry) :
    SeqOk w (loads.set n r) q := by
  refine h.congr (fun m => ?_) (fun m => ?_) <;> by_cases same : m = n
  · rw [same, set_self, state]
  · rw [set_other same]
  · rw [same, set_self, entry]
  · rw [set_other same]

/-- A load that leaves its state for one other than QUEUED and STARTING leaves the queue or the start slot (R34, R40). -/
theorem leave {n : LoadIx} {r : LoadRec} (notQueued : r.state ≠ .queued) (notStarting : r.state ≠ .starting) (gap : Nat) :
    SeqOk w (loads.set n r) (q.onLeave n gap loads[n].state) := by
  have absent : loads[n].state ≠ .queued → ∀ e ∈ q.queue, e.load ≠ n := fun stays e mem same =>
    stays (same ▸ (h.entries e mem).1)
  have entriesOf : ∀ e ∈ q.queue, e.load ≠ n → (loads.set n r)[e.load].state = .queued ∧
      (loads.set n r)[e.load].entry = some e.number ∧ e.priority = w[e.load].priority := fun e mem ne => by
    rw [set_other ne]; exact h.entries e mem
  have queuedOf : ∀ m : LoadIx, (loads.set n r)[m].state = .queued → m ≠ n ∧ loads[m].state = .queued := fun m queued => by
    by_cases same : m = n
    · rw [same, set_self] at queued; exact absurd queued notQueued
    · rw [set_other same] at queued; exact ⟨same, queued⟩
  have slotOf : ∀ m : LoadIx, (loads.set n r)[m].state = .starting ↔ m ≠ n ∧ q.slot = some m := fun m => by
    by_cases same : m = n
    · rw [same, set_self]; simp [notStarting]
    · rw [set_other same, h.slot]; simp [same]
  by_cases queued : loads[n].state = .queued
  · have free : q.slot ≠ some n := fun held => by rw [(h.slot n).mpr held] at queued; exact absurd queued (by decide)
    rw [queued]
    refine ⟨h.distinct.sublist (List.filter_sublist.map _), h.sorted.sublist (List.filter_sublist.map _), fun e mem => ?_,
      fun m still => ?_, fun m => ?_, h.gap⟩
    · obtain ⟨mem, ne⟩ := List.mem_filter.mp mem
      exact entriesOf e mem (of_decide_eq_true ne)
    · obtain ⟨ne, still⟩ := queuedOf m still
      obtain ⟨e, mem, rfl⟩ := List.mem_map.mp (h.queued m still)
      exact List.mem_map.mpr ⟨e, List.mem_filter.mpr ⟨mem, decide_eq_true ne⟩, rfl⟩
    · rw [slotOf]
      exact ⟨fun ⟨_, held⟩ => held, fun held => ⟨fun same => free (same ▸ held), held⟩⟩
  by_cases starting : loads[n].state = .starting
  · have held := (h.slot n).mp starting
    rw [starting]
    refine ⟨h.distinct, h.sorted, fun e mem => entriesOf e mem (absent queued e mem),
      fun m still => h.queued m (queuedOf m still).2, fun m => ?_,
      fun held => by simp [Sequencer.onLeave, Sequencer.release] at held⟩
    rw [slotOf, held]
    simp only [Sequencer.onLeave, Sequencer.release, Option.some.injEq, reduceCtorEq, iff_false]
    exact fun ⟨ne, same⟩ => ne same.symm
  · have free : q.slot ≠ some n := fun held => starting ((h.slot n).mpr held)
    rw [onLeave_of_ne queued starting]
    refine ⟨h.distinct, h.sorted, fun e mem => entriesOf e mem (absent queued e mem),
      fun m still => h.queued m (queuedOf m still).2, fun m => ?_, h.gap⟩
    rw [slotOf]
    exact ⟨fun ⟨_, held⟩ => held, fun held => ⟨fun same => free (same ▸ held), held⟩⟩

/-- A load out of the queue and the slot joins with the next entry number (R32, R33). -/
theorem join {n : LoadIx} {r : LoadRec} (notQueued : loads[n].state ≠ .queued) (notStarting : loads[n].state ≠ .starting)
    (queued : r.state = .queued) (entry : r.entry = some q.counter) :
    SeqOk w (loads.set n r) (q.join n w[n].priority) := by
  have absent : ∀ e ∈ q.queue, e.load ≠ n := fun e mem same => notQueued (same ▸ (h.entries e mem).1)
  have perm := joinQueue_perm { load := n, priority := w[n].priority, number := q.counter } q.queue
  refine ⟨?_, joinQueue_sorted _ h.sorted, fun e mem => ?_, fun m now => ?_, fun m => ?_, h.gap⟩
  · refine (perm.map _).nodup_iff.mpr (List.nodup_cons.mpr ⟨fun mem => ?_, h.distinct⟩)
    obtain ⟨e, mem, same⟩ := List.mem_map.mp mem
    exact absent e mem same
  · obtain rfl | mem := List.mem_cons.mp (perm.mem_iff.mp mem)
    · rw [set_self]; exact ⟨queued, entry, rfl⟩
    · rw [set_other (absent e mem)]; exact h.entries e mem
  · refine (perm.map _).mem_iff.mpr (List.mem_cons.mpr ?_)
    by_cases same : m = n
    · exact .inl same
    · rw [set_other same] at now; exact .inr (h.queued m now)
  · by_cases same : m = n
    · have free : q.slot ≠ some n := fun held => notStarting ((h.slot n).mpr held)
      rw [same, set_self, queued]
      exact ⟨fun h => absurd h (by decide), fun held => absurd held free⟩
    · rw [set_other same]; exact h.slot m

/-- The head of the queue is granted a free slot while no gap runs (R10, R38). -/
theorem grant {e : QueueEntry} {rest : List QueueEntry} {r : LoadRec} (queue : q.queue = e :: rest) (free : q.slot = none)
    (noGap : q.gap = .stopped) (starting : r.state = .starting) :
    SeqOk w (loads.set e.load r) { q with queue := rest, slot := some e.load } := by
  obtain ⟨distinct, sorted, entries, queued, slot, -⟩ := h
  rw [queue] at distinct sorted entries queued
  obtain ⟨fresh, distinct⟩ := List.nodup_cons.mp distinct
  have absent : ∀ x ∈ rest, x.load ≠ e.load := fun x mem same => fresh (List.mem_map.mpr ⟨x, mem, same⟩)
  refine ⟨distinct, (List.pairwise_cons.mp sorted).2, fun x mem => ?_, fun m now => ?_, fun m => ?_, fun _ => noGap⟩
  · rw [set_other (absent x mem)]; exact entries x (List.mem_cons_of_mem e mem)
  · by_cases same : m = e.load
    · rw [same, set_self, starting] at now; exact absurd now (by decide)
    · rw [set_other same] at now
      exact (List.mem_cons.mp (queued m now)).resolve_left same
  · by_cases same : m = e.load
    · rw [same, set_self]; simp [starting]
    · rw [set_other same, slot m, free]
      simp [Ne.symm same]

end SeqOk

/-! ### The order of joining (R33) -/

/-- In a queue the head stands ahead of all others, and these stand as they do among themselves. -/
theorem ahead_cons_iff {x a b : QueueEntry} {q : List QueueEntry} :
    Ahead (x :: q) a b ↔ (x = a ∧ b ∈ q) ∨ Ahead q a b := by
  constructor
  · rintro ⟨u, v, w, eq⟩
    cases u with
    | nil =>
      obtain ⟨rfl, rfl⟩ := List.cons.inj eq
      exact .inl ⟨rfl, by simp⟩
    | cons y u =>
      obtain ⟨rfl, rfl⟩ := List.cons.inj eq
      exact .inr ⟨u, v, w, rfl⟩
  · rintro (⟨rfl, mem⟩ | ⟨u, v, w, rfl⟩)
    · obtain ⟨v, w, rfl⟩ := List.append_of_mem mem
      exact ⟨[], v, w, rfl⟩
    · exact ⟨x :: u, v, w, rfl⟩

theorem mem_of_ahead {q : List QueueEntry} {a b : QueueEntry} (h : Ahead q a b) : a ∈ q ∧ b ∈ q := by
  obtain ⟨u, v, w, rfl⟩ := h
  simp

/-- Of two entries of a queue one stands ahead of the other. -/
theorem pairwise_ahead : ∀ q : List QueueEntry, q.Pairwise (Ahead q)
  | [] => .nil
  | _ :: q => .cons (fun _ mem => ahead_cons_iff.mpr (.inl ⟨rfl, mem⟩))
      ((pairwise_ahead q).imp fun h => ahead_cons_iff.mpr (.inr h))

/-- What holds of any two entries in their order holds of one that stands ahead of another. -/
theorem of_ahead {R : QueueEntry → QueueEntry → Prop} {q : List QueueEntry} (h : q.Pairwise R) {a b : QueueEntry}
    (ahead : Ahead q a b) : R a b := by
  obtain ⟨u, v, w, rfl⟩ := ahead
  have tail := (List.pairwise_append.mp h).2.1
  exact (List.pairwise_cons.mp tail).1 b (by simp)

/-- Of two different entries one stands ahead. -/
theorem ahead_or_ahead {q : List QueueEntry} {a b : QueueEntry} (ha : a ∈ q) (hb : b ∈ q) (ne : a ≠ b) :
    Ahead q a b ∨ Ahead q b a := by
  induction q with
  | nil => simp at ha
  | cons x q ih =>
    rw [ahead_cons_iff, ahead_cons_iff]
    obtain first | inRest := List.mem_cons.mp ha <;> obtain first' | inRest' := List.mem_cons.mp hb
    · exact absurd (first.trans first'.symm) ne
    · exact .inl (.inl ⟨first.symm, inRest'⟩)
    · exact .inr (.inl ⟨first'.symm, inRest⟩)
    · exact (ih inRest inRest').imp .inr .inr

/-- In a queue that holds no entry twice, of two entries one alone stands ahead. -/
theorem not_ahead_of_ahead {q : List QueueEntry} (distinct : q.Nodup) {a b : QueueEntry} (h : Ahead q a b) : ¬ Ahead q b a := by
  induction q with
  | nil => exact fun none => by simpa using (mem_of_ahead none).1
  | cons x q ih =>
    obtain ⟨fresh, distinct⟩ := List.nodup_cons.mp distinct
    rw [ahead_cons_iff] at h ⊢
    rintro (⟨rfl, mem⟩ | back) <;> obtain ⟨rfl, mem'⟩ | ahead := h
    · exact fresh mem
    · exact fresh (mem_of_ahead ahead).2
    · exact fresh (mem_of_ahead back).2
    · exact ih distinct ahead back

/-- Entry a goes before entry b: by its priority; at one priority by its place in the queue q that stood before, as one that stood
there before one that has joined since, or by the number it took, counted from the counter as it stood (R33). -/
def Precedes (counter : Word) (q : List QueueEntry) (a b : QueueEntry) : Prop :=
  a.priority < b.priority ∨
    (a.priority = b.priority ∧
      ((a ∈ q ∧ b ∈ q ∧ Ahead q a b) ∨ (a ∈ q ∧ b ∉ q) ∨
        (a ∉ q ∧ b ∉ q ∧ (a.number - counter).toNat < (b.number - counter).toNat)))

/-- From s to a state with sequencer q at most k loads have joined: q stands in the order of joining, and each of its entries stood
in the queue of s or is of a load that could join in s, under one of the k numbers since (R32, R33). -/
structure Flow (s : State) (k : Nat) (q : Sequencer) : Prop where
  counter : q.counter = s.seq.counter + BitVec.ofNat 16 k
  ordered : q.queue.Pairwise (Precedes s.seq.counter s.seq.queue)
  source : ∀ e ∈ q.queue, e ∈ s.seq.queue ∨ (Idle s e.load ∧ (e.number - s.seq.counter).toNat < k)

/-- A queue without two entries of one load holds no entry twice. -/
theorem SeqOk.nodup {w : Vector LoadConfig 16} {loads : Vector LoadRec 16} {q : Sequencer} (h : SeqOk w loads q) : q.queue.Nodup :=
  List.Nodup.of_map _ h.distinct

theorem SeqOk.priorities {w : Vector LoadConfig 16} {loads : Vector LoadRec 16} {q : Sequencer} (h : SeqOk w loads q) :
    q.queue.Pairwise (·.priority ≤ ·.priority) :=
  List.pairwise_map.mp h.sorted

/-- An entry joins a queue in some order, where it comes behind those of lower or equal priority value and ahead of the others. -/
theorem pairwise_joinQueue {R : QueueEntry → QueueEntry → Prop} {e : QueueEntry} {q : List QueueEntry} (h : q.Pairwise R)
    (sorted : q.Pairwise (·.priority ≤ ·.priority)) (behind : ∀ x ∈ q, x.priority ≤ e.priority → R x e)
    (ahead : ∀ x ∈ q, e.priority < x.priority → R e x) : (joinQueue e q).Pairwise R := by
  induction q with
  | nil => exact List.pairwise_singleton R e
  | cons x q ih =>
    obtain ⟨first, h⟩ := List.pairwise_cons.mp h
    obtain ⟨least, sorted⟩ := List.pairwise_cons.mp sorted
    rw [joinQueue_cons]
    split
    case isTrue le =>
      refine .cons (fun y mem => ?_) (ih h sorted (fun y mem => behind y (.tail x mem)) (fun y mem => ahead y (.tail x mem)))
      obtain rfl | mem := List.mem_cons.mp ((joinQueue_perm e q).mem_iff.mp mem)
      exacts [behind x (.head q) le, first y mem]
    case isFalse gt =>
      have lt : e.priority < x.priority := Nat.not_le.mp gt
      refine .cons (fun y mem => ?_) (.cons first h)
      obtain rfl | mem := List.mem_cons.mp mem
      exacts [ahead y (.head q) lt, ahead y (.tail x mem) (Nat.lt_of_lt_of_le lt (least y mem))]

namespace Flow

variable {s : State} {k : Nat} {q : Sequencer}

/-- Nothing has joined yet. -/
theorem start (ok : SeqOk s.ws.loads s.loads s.seq) : Flow s 0 s.seq where
  counter := by simp
  ordered := by
    refine (List.pairwise_and_iff.mpr ⟨ok.priorities, pairwise_ahead _⟩).imp fun {a b} ⟨le, ahead⟩ => ?_
    obtain ⟨ha, hb⟩ := mem_of_ahead ahead
    exact (Nat.lt_or_eq_of_le le).imp id fun eq => ⟨eq, .inl ⟨ha, hb, ahead⟩⟩
  source e mem := .inl mem

variable (h : Flow s k q)
include h

/-- The order looks at the queue and the counter alone, and what leaves the queue changes no order. -/
theorem sublist {q' : Sequencer} (queue : q'.queue.Sublist q.queue) (counter : q'.counter = q.counter) : Flow s k q' where
  counter := counter.trans h.counter
  ordered := h.ordered.sublist queue
  source e mem := h.source e (queue.subset mem)

theorem onLeave (n : LoadIx) (gap : Nat) (old : LoadState) : Flow s k (q.onLeave n gap old) := by
  cases old with
  | queued => exact h.sublist List.filter_sublist rfl
  | off | starting | on | shed | tripped | locked => exact h.sublist (.refl _) rfl

/-- The number of the next entry, counted from the counter of s. -/
theorem offset (small : k < 65536) : (q.counter - s.seq.counter).toNat = k := by
  rw [h.counter, BitVec.add_comm, BitVec.add_sub_cancel, BitVec.toNat_ofNat, Nat.mod_eq_of_lt small]

/-- A load that could join in s joins (R33). -/
theorem join (ok : SeqOk s.ws.loads s.loads s.seq) (small : k < 65536) {n : LoadIx} (idle : Idle s n) {priority : Nat} :
    Flow s (k + 1) (q.join n priority) := by
  have absent : ∀ e ∈ s.seq.queue, e.load ≠ n := fun e mem same => by
    subst same
    have queued := (ok.entries e mem).1
    obtain h | h | h := idle <;> rw [h] at queued <;> exact absurd queued (by decide)
  have next := h.offset small
  obtain ⟨counter, ordered, source⟩ := h
  refine ⟨?_, ?_, fun e mem => ?_⟩
  · simp only [Sequencer.join, counter, BitVec.ofNat_add, BitVec.add_assoc]; rfl
  · have new : ({ load := n, priority := priority, number := q.counter } : QueueEntry) ∉ s.seq.queue :=
      fun mem => absent _ mem rfl
    refine pairwise_joinQueue ordered (ordered.imp fun h => ?_) (fun x mem le => ?_) fun x mem lt => .inl lt
    · exact h.elim Nat.le_of_lt fun h => Nat.le_of_eq h.1
    · refine (Nat.lt_or_eq_of_le le).imp id fun eq => ⟨eq, .inr ?_⟩
      by_cases old : x ∈ s.seq.queue
      · exact .inl ⟨old, new⟩
      · exact .inr ⟨old, new, by rw [next]; exact ((source x mem).resolve_left old).2⟩
  · obtain rfl | mem := List.mem_cons.mp ((joinQueue_perm _ _).mem_iff.mp mem)
    · exact .inr ⟨idle, by dsimp only; omega⟩
    · exact (source e mem).imp id fun ⟨idle, lt⟩ => ⟨idle, by omega⟩

/-- The order of joining is first come, first served (R33). -/
theorem firstCome (ok : SeqOk s.ws.loads s.loads s.seq) : FirstCome s.seq.counter s.seq.queue q.queue := by
  intro a ha b hb ne
  have order : (Ahead q.queue a b ∧ Precedes s.seq.counter s.seq.queue a b) ∨
      (Ahead q.queue b a ∧ Precedes s.seq.counter s.seq.queue b a) :=
    (ahead_or_ahead ha hb ne).imp (fun first => ⟨first, of_ahead h.ordered first⟩)
      (fun second => ⟨second, of_ahead h.ordered second⟩)
  obtain ⟨first, order⟩ | ⟨second, order⟩ := order
  · refine ⟨fun _ _ _ => first, fun _ _ _ => first, fun oldA newB lt => ?_, fun _ _ _ _ => first⟩
    exact absurd order fun | .inl lt' => by omega | .inr ⟨eq, _⟩ => by omega
  · refine ⟨fun oldA oldB ahead => ?_, fun oldA newB le => ?_, fun _ _ _ => second, fun newA newB eq lt => ?_⟩
    · obtain lt | ⟨-, ⟨-, -, back⟩ | ⟨-, new⟩ | ⟨new, -⟩⟩ := order
      · have le := of_ahead ok.priorities ahead
        omega
      · exact absurd back (not_ahead_of_ahead ok.nodup ahead)
      · exact absurd oldA new
      · exact absurd oldB new
    · obtain lt | ⟨-, ⟨old, -⟩ | ⟨old, -⟩ | ⟨-, new, -⟩⟩ := order
      · omega
      · exact absurd old newB
      · exact absurd old newB
      · exact absurd oldA new
    · obtain lt' | ⟨-, ⟨old, -⟩ | ⟨old, -⟩ | ⟨-, -, lt'⟩⟩ := order
      · omega
      · exact absurd old newB
      · exact absurd old newB
      · omega

end Flow

/-! ### Records, sequencer and order together -/

/-- From base, whose sequencer is lawful, to s at most k loads have joined, and the records and the sequencer of s are lawful. -/
structure Progress (base : State) (k : Nat) (s : State) : Prop where
  lawful : SeqOk base.ws.loads base.loads base.seq
  records : ∀ n : LoadIx, LoadOk s.ws.loads[n] s.loads[n]
  seq : SeqOk s.ws.loads s.loads s.seq
  flow : Flow base k s.seq

/-- A lawful state is its own beginning. -/
theorem Progress.start {s : State} (records : ∀ n : LoadIx, LoadOk s.ws.loads[n] s.loads[n])
    (seq : SeqOk s.ws.loads s.loads s.seq) :
    Progress s 0 s :=
  ⟨seq, records, seq, .start seq⟩

/-- One event at a load keeps the laws and lets at most one load join; that one must have been able to join in base. -/
theorem Progress.change {base s t : State} {n : LoadIx} {k : Nat} (h : Progress base k s) (change : LoadChange s n t)
    (idle : Idle s n → Idle base n) (small : k < 65536) : ∃ k', k' ≤ k + 1 ∧ Progress base k' t := by
  have records : ∀ m : LoadIx, LoadOk t.ws.loads[m] t.loads[m] := fun m => by
    by_cases same : m = n
    · exact same ▸ change.lawful (h.records n)
    · rw [change.frame.ws, change.other same]; exact h.records m
  have loads : t.loads = s.loads.set n t.loads[n] := by
    refine Vector.ext fun i lt => ?_
    by_cases same : (⟨i, lt⟩ : LoadIx) = n
    · subst same; exact (set_self (⟨i, lt⟩ : LoadIx) s.loads _).symm
    · exact (change.other same).trans (set_other same s.loads _).symm
  suffices laws : SeqOk s.ws.loads (s.loads.set n t.loads[n]) t.seq ∧ ∃ k', k' ≤ k + 1 ∧ Flow base k' t.seq by
    obtain ⟨seq, k', le, flow⟩ := laws
    exact ⟨k', le, h.lawful, records, by rw [change.frame.ws, loads]; exact seq, flow⟩
  obtain ⟨state, entry, seq⟩ | ⟨new, state, notStarting, -, joins, seq⟩ := change.moved
  · rw [seq]
    exact ⟨h.seq.write state entry, k, Nat.le_succ k, h.flow⟩
  by_cases queued : new = .queued
  · obtain ⟨out, -, entry⟩ := joins queued
    have notQueued : s.loads[n].state ≠ .queued := by obtain h | h | h := out <;> rw [h] <;> decide
    have notStarting : s.loads[n].state ≠ .starting := by obtain h | h | h := out <;> rw [h] <;> decide
    rw [seq, onLeave_of_ne notQueued notStarting, queued]
    exact ⟨h.seq.join notQueued notStarting (state.trans queued) entry, k + 1, Nat.le_refl _, h.flow.join h.lawful small (idle out)⟩
  · have enter : ∀ q : Sequencer, q.onEnter n s.ws.loads[n].priority new = q := fun q => by
      cases new with
      | starting => exact absurd rfl notStarting
      | queued => exact absurd rfl queued
      | off | on | shed | tripped | locked => rfl
    rw [seq, enter]
    exact ⟨h.seq.leave (state ▸ queued) (state ▸ notStarting) _, k, Nat.le_succ k, h.flow.onLeave _ _ _⟩

/-- Events at several loads, at most one at each. -/
theorem Progress.changes {base s t : State} {ns : List LoadIx} (changes : LoadChanges s ns t) :
    ∀ {k : Nat}, Progress base k s → ns.Nodup → (∀ n ∈ ns, Idle s n → Idle base n) → k + ns.length < 65536 →
      ∃ k', k' ≤ k + ns.length ∧ Progress base k' t := by
  induction changes with
  | nil s => exact fun {k} h _ _ _ => ⟨k, Nat.le_refl _, h⟩
  | @cons s t u n ns head rest ih =>
    intro k h distinct idle small
    obtain ⟨fresh, distinct⟩ := List.nodup_cons.mp distinct
    rw [List.length_cons] at small ⊢
    obtain ⟨k', le, h'⟩ := h.change head (idle n (.head ns)) (by omega)
    have idle' : ∀ m ∈ ns, Idle t m → Idle base m := fun m mem out => by
      rw [Idle, head.other fun same => fresh (same ▸ mem)] at out
      exact idle m (.tail n mem) out
    obtain ⟨k'', le', h''⟩ := ih h' distinct idle' (by omega)
    exact ⟨k'', by omega, h''⟩

/-- Under KILL no event brings a demand ON (R8, R26). -/
theorem KillOk.changes {s t : State} {ns : List LoadIx} (changes : LoadChanges s ns t) (h : KillOk s) : KillOk t := by
  induction changes with
  | nil s => exact h
  | @cons s t u n ns head _ ih =>
    refine ih fun kill m => ?_
    rw [head.frame.quals] at kill
    by_cases same : m = n
    · rw [same]
      refine Bool.eq_false_iff.mpr fun on => ?_
      obtain on | off := head.demand on
      · exact absurd ((h kill n).symm.trans on) (by decide)
      · exact absurd (kill.symm.trans off) (by decide)
    · rw [head.other same]; exact h kill m

/-- Only a grant makes EN active (R4, R10). -/
theorem en_changes {s t : State} {ns : List LoadIx} (changes : LoadChanges s ns t) {n : LoadIx} (off : s.en n = false) :
    t.en n = false := by
  induction changes with
  | nil s => exact off
  | @cons s t u m ns head _ ih =>
    refine ih ?_
    by_cases same : n = m
    · subst same
      unfold State.en at off ⊢
      obtain ⟨state, -⟩ | ⟨new, state, notStarting, runs, -⟩ := head.moved
      · rwa [state]
      · rw [state]
        cases new with
        | starting => exact absurd rfl notStarting
        | on => rw [runs rfl] at off; exact absurd off (by decide)
        | off | queued | shed | tripped | locked => rfl
    · unfold State.en at off ⊢
      rwa [head.other same]

end Sys2Proof.Proofs
end

section
/-! PROOFS. What a command can do to the loads, the start queue and the severity unit, said once for all rows of the table: it makes
the grant that is due before it, lets time pass, takes its effect, and, where the sequencer considers a grant at it, makes that
grant last. -/

namespace Sys2Proof.Proofs

open Sys2Proof.Machine Sys2Proof.Safety Sys2Proof.Claims

/-! ### States that agree -/

/-- The same part but for the records of the store, the line, the session, the profile and the watches. -/
structure SameCore (s t : State) : Prop extends SameFrame s t where
  loads : t.loads = s.loads
  seq : t.seq = s.seq

theorem SameCore.refl (s : State) : SameCore s s := ⟨.refl s, rfl, rfl⟩

theorem SameCore.trans {s t u : State} (h : SameCore s t) (g : SameCore t u) : SameCore s u :=
  ⟨h.toSameFrame.trans g.toSameFrame, g.loads.trans h.loads, g.seq.trans h.seq⟩

theorem sameCore_kick (s : State) : SameCore s s.kick := by
  refine ⟨⟨?_, ?_, ?_, ?_, ?_⟩, ?_, ?_⟩ <;> simp

theorem sameCore_offerBeforeReply (s : State) : SameCore s s.offerBeforeReply := by
  refine ⟨⟨?_, ?_, ?_, ?_, ?_⟩, ?_, ?_⟩ <;> simp

theorem sameCore_post (ps : List Payload) (s : State) : SameCore s (s.post ps) := ⟨⟨rfl, rfl, rfl, rfl, rfl⟩, rfl, rfl⟩

/-- A grant before a command is the consideration of a grant, and the transmitter's choice. -/
theorem sameCore_takeGrant (s : State) : SameCore s.considerGrant s.takeGrant := by
  unfold State.takeGrant
  cases due : s.grantDue with
  | true => exact sameCore_kick _
  | false =>
    obtain ⟨-, eq⟩ | ⟨e, rest, -, due', -⟩ := s.considerGrant_cases
    · rw [eq]; exact .refl s
    · simp [due] at due'

/-- The same records under the same configurations, and the same sequencer. -/
structure SameLoads (s t : State) : Prop where
  configs : t.ws.loads = s.ws.loads
  loads : t.loads = s.loads
  seq : t.seq = s.seq

theorem SameCore.sameLoads {s t : State} (h : SameCore s t) : SameLoads s t := ⟨by rw [h.ws], h.loads, h.seq⟩

theorem SameLoads.idle {s t : State} (h : SameLoads s t) (n : LoadIx) : Idle t n ↔ Idle s n := by
  rw [Idle, Idle, h.loads]

theorem Progress.sameLoads {base s t : State} {k : Nat} (h : Progress base k s) (same : SameLoads s t) : Progress base k t where
  lawful := h.lawful
  records n := by rw [same.configs, same.loads]; exact h.records n
  seq := by rw [same.configs, same.loads, same.seq]; exact h.seq
  flow := same.seq ▸ h.flow

theorem KillOk.of_loads {s t : State} (h : KillOk s) (loads : t.loads = s.loads)
    (kill : t.quals.kill.qualified = true → s.quals.kill.qualified = true) : KillOk t := by
  intro asserted n
  rw [loads]
  exact h (kill asserted) n

/-! ### The grant and time -/

/-- A grant that is due goes to the head of the queue; where none is due nothing happens (R36). -/
theorem considerGrant_cases_granted (s : State) :
    (s.grantDue = false ∧ s.considerGrant = s) ∨
      ∃ e rest, s.seq.queue = e :: rest ∧ GrantDue s ∧ s.considerGrant = granted e rest s := by
  obtain ⟨due, eq⟩ | ⟨e, rest, queue, due, -⟩ := s.considerGrant_cases
  · exact .inl ⟨due, eq⟩
  · refine .inr ⟨e, rest, queue, grantDue_iff.mp due, ?_⟩
    rw [← withGrant_eq, withGrant]
    simp only [queue]
    exact if_pos (grantDue_iff.mp due)

/-- A grant leaves the laws and the order of joining. -/
theorem Progress.considerGrant {base s : State} {k : Nat} (h : Progress base k s) : Progress base k s.considerGrant := by
  obtain ⟨-, eq⟩ | ⟨e, rest, queue, due, eq⟩ := s.considerGrant_cases <;> rw [eq]
  · exact h
  obtain ⟨free, gap, -⟩ := grantDue_iff.mp due
  have queued := (h.seq.entries e (queue ▸ .head rest)).1
  refine ⟨h.lawful, fun n => ?_, h.seq.grant queue free gap (LoadRec.enter_state ..), ?_⟩
  · simp only [State.grantHead, State.post_loads, State.post_ws]
    by_cases same : n = e.load
    · rw [same, set_self]; exact loadOk_granted (h.records e.load) queued _ _
    · rw [set_other same]; exact h.records n
  · exact h.flow.sublist (queue ▸ List.sublist_cons_self e rest) rfl

/-- A grant changes no demand. -/
theorem considerGrant_demand (s : State) (n : LoadIx) : s.considerGrant.loads[n].demand = s.loads[n].demand := by
  obtain ⟨-, eq⟩ | ⟨e, rest, -, -, eq⟩ := s.considerGrant_cases <;> rw [eq]
  simp only [State.grantHead, State.post_loads]
  by_cases same : n = e.load
  · rw [same, set_self, (LoadRec.enter_keeps _ _ _ _ _).1]
  · rw [set_other same]

theorem KillOk.considerGrant {s : State} (h : KillOk s) : KillOk s.considerGrant := by
  intro kill n
  rw [considerGrant_demand]
  exact h (by simpa using kill) n

/-- A load that may join after a grant could join before it. -/
theorem idle_considerGrant {s : State} {n : LoadIx} (h : Idle s.considerGrant n) : Idle s n := by
  obtain ⟨-, eq⟩ | ⟨e, rest, -, -, eq⟩ := s.considerGrant_cases <;> rw [eq] at h
  · exact h
  simp only [Idle, State.grantHead, State.post_loads] at h
  by_cases same : n = e.load
  · rw [same, set_self, LoadRec.enter_state] at h
    simp at h
  · rw [set_other same] at h; exact h

theorem timer_elapse_zero (t : Timer) : t.elapse 0 = t := by cases t <;> simp

/-- No time changes nothing. -/
theorem elapse_zero (s : State) : s.elapse 0 = s := by
  have load : LoadRec.elapse 0 = id := by funext r; simp only [LoadRec.elapse, timer_elapse_zero, id]
  have qualifier : Qualifier.elapse 0 = id := by funext q; simp only [Qualifier.elapse, timer_elapse_zero, id]
  have save : Save.elapse 0 = id := by funext v; simp only [Save.elapse, timer_elapse_zero, id]
  have time : s.timeBase + BitVec.ofNat 32 0 = s.timeBase := by simp
  unfold State.elapse
  split
  · simp only [load, qualifier, save, time, timer_elapse_zero, Vector.map_id, Option.map_id, id]
  · rfl

theorem elapse_load_entry (d : Nat) (s : State) (n : LoadIx) : (s.elapse d).loads[n].entry = s.loads[n].entry := by
  cases runs : s.phase.timeRuns with
  | false => rw [State.elapse_still runs]
  | true => rw [State.elapse_load runs, LoadRec.elapse_entry]

theorem elapse_load_demand (d : Nat) (s : State) (n : LoadIx) : (s.elapse d).loads[n].demand = s.loads[n].demand := by
  cases runs : s.phase.timeRuns with
  | false => rw [State.elapse_still runs]
  | true => rw [State.elapse_load runs, LoadRec.elapse_demand]

theorem elapse_kill_qualified (d : Nat) (s : State) : (s.elapse d).quals.kill.qualified = s.quals.kill.qualified := by
  unfold State.elapse; split <;> rfl

theorem elapse_shed_qualified (d : Nat) (s : State) : (s.elapse d).quals.shed.qualified = s.quals.shed.qualified := by
  unfold State.elapse; split <;> rfl

theorem Progress.elapse {base s : State} {k : Nat} (h : Progress base k s) (d : Nat) : Progress base k (s.elapse d) where
  lawful := h.lawful
  records n := by
    cases runs : s.phase.timeRuns with
    | false => rw [State.elapse_still runs]; exact h.records n
    | true => rw [State.elapse_load runs, State.elapse_ws]; exact loadOk_elapse (h.records n) d
  seq := by
    have seq := h.seq.congr (elapse_load_state d s) (elapse_load_entry d s)
    refine ⟨?_, ?_, ?_, ?_, ?_, fun held => ?_⟩
    · simpa using seq.distinct
    · simpa using seq.sorted
    · simpa [-Fin.getElem_fin] using seq.entries
    · simpa [-Fin.getElem_fin] using seq.queued
    · simpa [-Fin.getElem_fin] using seq.slot
    · have stopped := seq.gap (by simpa using held)
      unfold State.elapse; split <;> simp [stopped]
  flow := h.flow.sublist (by simp) (by simp)

theorem KillOk.elapse {s : State} (h : KillOk s) (d : Nat) : KillOk (s.elapse d) := by
  intro kill n
  rw [elapse_load_demand]
  exact h (elapse_kill_qualified d s ▸ kill) n

theorem idle_elapse {s : State} {d : Nat} {n : LoadIx} : Idle (s.elapse d) n ↔ Idle s n := by
  rw [Idle, Idle, elapse_load_state]

/-! ### What a command makes of the part before a grant -/

/-- The loads, the sequencer and the severity unit stand, with their configurations, and a running part follows the qualified
states it followed. A qualified state may change on its own only until start-up ends, where it is held (R194, R196). -/
structure Quiet (s t : State) : Prop extends SameLoads s t where
  ladders : t.ws.ladders = s.ws.ladders
  cutoff : t.ws.cutoff = s.ws.cutoff
  globals : t.ws.globals = s.ws.globals
  sev : t.sev = { s.sev with hold := t.sev.hold }
  kill : t.quals.kill.qualified = true → s.quals.kill.qualified = true ∨ s.phase ≠ .running
  shed : t.phase = .running → t.quals.shed.qualified = s.quals.shed.qualified
  phase : t.phase = .running → s.phase = .running

theorem SameCore.quiet {s t : State} (h : SameCore s t) : Quiet s t where
  toSameLoads := h.sameLoads
  ladders := by rw [h.ws]
  cutoff := by rw [h.ws]
  globals := by rw [h.ws]
  sev := by rw [h.sev]
  kill asserted := .inl (h.quals ▸ asserted)
  shed _ := by rw [h.quals]
  phase running := h.phase ▸ running

/-- The contributions to the depth have changed, lawfully, and the depth is not formed anew yet (R59). -/
structure DepthOpen (s t : State) : Prop extends SameLoads s t where
  cutoff : t.ws.cutoff = s.ws.cutoff
  depth : t.sev.depth = s.sev.depth
  kill : t.quals.kill.qualified = s.quals.kill.qualified
  ladders : (∀ k : LadderIx, s.ws.ladders[k].ok = true) → (∀ k : LadderIx, LadderOk s.ws.ladders[k] s.sev.ladders[k]) →
    ∀ k : LadderIx, LadderOk t.ws.ladders[k] t.sev.ladders[k]
  floor : s.sev.hostFloor ≤ 4 → t.sev.hostFloor ≤ 4
  shed : (s.phase = .running → s.sev.shedInput = s.quals.shed.qualified) → t.phase = .running →
    t.sev.shedInput = t.quals.shed.qualified

/-- An accepted SET CUTOFF up to the consideration of a grant (R65). -/
def cutoffReplaced (table : Vector Nat 4) (s : State) : State :=
  let t := State.setDirty { s with ws := { s.ws with cutoff := table } }
  let u := t.eachLoad (newlyShed s.ws s.sev.depth t.ws s.sev.depth) State.shedLoad
  if u.unshedWaits then u.startHold else u

/-- Steps 5 and 6 of start-up up to the consideration of a grant (R195). -/
def autostarted (asInh : PinLevel) (s : State) : State :=
  let t : State := { s with scan := s.scan.begin s.ws.scanList 0 }
  { (if asInh = .high ∧ t.quals.kill.qualified = false then t.eachLoad allLoads State.autostartLoad else t) with
    phase := .running }

/-- The effect of a command that considers no grant: what it leaves quiet; a reset; one event at a load that touches neither the
queue nor the slot; and a SET LOAD. Only the end of a conversion sets the priming flag here (R84). -/
inductive Effect (c : Instr) (s : State) : State → Prop
  | quiet {t : State} (quiet : Quiet s t)
      (primed : t.scan.primed = s.scan.primed ∨ ((∃ raw, c = .readingArrival raw) ∧ s.scan.primed = false)) : Effect c s t
  | reset (phase : Phase) (cause : ResetCause) (stops : phase ≠ .running) : Effect c s (s.takeReset phase cause)
  | load {t u : State} {n : LoadIx} (quiet : Quiet s t) (primed : t.scan.primed = s.scan.primed)
      (change : LoadChange t n u) (seq : u.seq = t.seq) : Effect c s u
  | configure (n : LoadIx) (new : LoadConfig) (off : s.loads[n].state = .off) : Effect c s (s.configureLoad n new)

/-- What a command that considers a grant makes of the part before it does: events at loads, the end of the gap, a depth formed
anew, a new cutoff table, KILL handed on, and start-up. -/
inductive Prepares (s : State) : State → Prop
  | loads {t u : State} {ns : List LoadIx} (quiet : Quiet s t) (distinct : ns.Nodup) (changes : LoadChanges t ns u) :
      Prepares s u
  | gap : Prepares s { s with seq := { s.seq with gap := .stopped } }
  | depth {t : State} (counted : DepthOpen s t) : Prepares s t.formDepth
  | cutoff (table : Vector Nat 4) : Prepares s (cutoffReplaced table s)
  | kill {t : State} (asserted : Bool) (running : s.phase = .running)
      (adopted : t = { s with quals := { s.quals with kill := s.quals.kill.adopt asserted } }) : Prepares s (t.handKill asserted)
  | startUp (asInh : PinLevel) (selecting : s.phase = .selecting) :
      Prepares s (autostarted asInh s.selectProfile.startupReports)

/-- What a command leaves: its effect, or its effect and then a consideration of a grant. -/
inductive Leaves (c : Instr) (s : State) : State → Prop
  | stands {t u : State} (effect : Effect c s t) (same : SameCore t u) : Leaves c s u
  | grants {t u : State} (considers : considersGrant c = true) (prepares : Prepares s t)
      (same : SameCore t.considerGrant u) : Leaves c s u

/-- The state on which a command acts: a grant that is due has been made where the command comes after one, and time may have
passed. -/
def Begins (c : Instr) (s p : State) : Prop :=
  ∃ d, SameCore ((if followsGrant c = true then s.takeGrant else s).elapse d) p

/-- The command acts on some such state. -/
def Acts (c : Instr) (s t : State) : Prop := ∃ p, Begins c s p ∧ Leaves c p t

theorem Effect.same (c : Instr) (s : State) : Effect c s s := .quiet (SameCore.refl s).quiet (.inl rfl)

theorem Effect.leaves {c : Instr} {s t : State} (h : Effect c s t) : Leaves c s t := .stands h (.refl t)

theorem Prepares.leaves {c : Instr} {s t : State} (h : Prepares s t) (considers : considersGrant c = true) :
    Leaves c s t.considerGrant :=
  .grants considers h (.refl _)

theorem Leaves.of_sameCore {c : Instr} {s t : State} (h : SameCore s t) : Leaves c s t := .stands (.same c s) h

theorem Leaves.sameCore {c : Instr} {s t u : State} (h : Leaves c s t) (same : SameCore t u) : Leaves c s u := by
  cases h with
  | stands effect same' => exact .stands effect (same'.trans same)
  | grants considers prepares same' => exact .grants considers prepares (same'.trans same)

/-- Nothing has passed before a command that comes after no grant. -/
theorem Begins.now {c : Instr} (free : followsGrant c = false) {s p : State} (same : SameCore s p) : Begins c s p :=
  ⟨0, by rw [free, elapse_zero]; exact same⟩

theorem Begins.settled {c : Instr} (follows : followsGrant c = true) {s p : State} (same : SameCore s.takeGrant p) :
    Begins c s p :=
  ⟨0, by rw [follows, elapse_zero]; exact same⟩

/-! ### Requests -/

theorem sameCore_executeRequest (offers : Bool) (f : Frame) (own : List Byte → State → Answer) (s : State) :
    SameCore (own f.body s).state (s.executeRequest offers f own) := by
  unfold State.executeRequest
  refine SameCore.trans ?_ (sameCore_kick _)
  cases offers with
  | false => exact ⟨⟨rfl, rfl, rfl, rfl, rfl⟩, rfl, rfl⟩
  | true => exact (sameCore_offerBeforeReply _).trans ⟨⟨rfl, rfl, rfl, rfl, rfl⟩, rfl, rfl⟩

theorem sameCore_queueReply (frame : Frame) (resets : Bool) (s : State) : SameCore s (s.queueReply frame resets) :=
  ⟨⟨rfl, rfl, rfl, rfl, rfl⟩, rfl, rfl⟩

theorem sameCore_dropInbound (s : State) : SameCore s s.dropInbound := ⟨⟨rfl, rfl, rfl, rfl, rfl⟩, rfl, rfl⟩

/-- A request does what its owner answers, or no more than to queue a reply. -/
theorem acts_takeRequest {c : Instr} (follows : followsGrant c = true) {own : List Byte → State → Answer}
    (answers : ∀ b u, Leaves c u (own b u).state) (offers : Bool) (kind : Byte) (s : State) :
    Acts c s (s.takeRequest offers kind own) := by
  rw [State.takeRequest_after_grant]
  have replied : ∀ frame, SameCore s.takeGrant (s.takeGrant.dropInbound.queueReply frame false).kick := fun frame =>
    ((sameCore_dropInbound _).trans (sameCore_queueReply frame false _)).trans (sameCore_kick _)
  obtain ⟨-, eq⟩ | ⟨f, -, ⟨-, eq⟩ | ⟨-, e, -, eq⟩ | ⟨-, -, eq⟩⟩ :=
    State.takeRequest_cases offers kind own s.takeGrant_grantDue <;> rw [eq]
  · exact ⟨_, .settled follows (.refl _), .of_sameCore (.refl _)⟩
  · exact ⟨_, .settled follows (.refl _), .of_sameCore (replied _)⟩
  · exact ⟨_, .settled follows (.refl _), .of_sameCore (replied _)⟩
  · exact ⟨_, .settled follows (sameCore_dropInbound _), (answers f.body _).sameCore (sameCore_executeRequest offers f own _)⟩

/-! ### Expiries -/

/-- The moment of an expiry is one of the states on which its command acts. -/
theorem begins_reachExpiry {c : Instr} (follows : followsGrant c = true) (left : Nat) (s : State) :
    Begins c s (s.takeGrant.reachExpiry left) := by
  obtain eq | ⟨-, eq⟩ := s.takeGrant.reachExpiry_cases left
  · exact ⟨left, by rw [follows, eq]; exact ⟨⟨rfl, rfl, rfl, rfl, rfl⟩, rfl, rfl⟩⟩
  · exact ⟨left + 1, by rw [follows, eq]; exact ⟨⟨rfl, rfl, rfl, rfl, rfl⟩, rfl, rfl⟩⟩

/-- An expiry does what its event does, at a moment at which every load is in the state it was in, or nothing. -/
theorem acts_whenDue {c : Instr} (follows : followsGrant c = true) {event : State → State} (t : Timer) (s : State)
    (events : ∀ p : State, (∀ n : LoadIx, p.loads[n].state = s.takeGrant.loads[n].state) → Leaves c p (event p)) :
    Acts c s (s.takeGrant.whenDue t event) := by
  obtain ⟨-, eq⟩ | ⟨-, -, eq⟩ := s.takeGrant.whenDue_cases t event <;> rw [eq]
  · exact ⟨_, .settled follows (.refl _), .of_sameCore (.refl _)⟩
  · refine ⟨_, begins_reachExpiry follows _ s, (events _ fun n => ?_).sameCore (sameCore_kick _)⟩
    exact elapse_load_state _ _ n

/-- As for an expiry, of a load or a block that may be in another state. -/
theorem acts_whenDue_if {c : Instr} (follows : followsGrant c = true) {event : State → State} (t : Timer) (s : State)
    (p : Prop) [Decidable p]
    (events : p → ∀ q : State, (∀ n : LoadIx, q.loads[n].state = s.takeGrant.loads[n].state) → Leaves c q (event q)) :
    Acts c s (if p then s.takeGrant.whenDue t event else s.takeGrant) := by
  split
  case isTrue h => exact acts_whenDue follows t s (events h)
  case isFalse => exact ⟨_, .settled follows (.refl _), .of_sameCore (.refl _)⟩

end Sys2Proof.Proofs
end

section
/-! PROOFS. Each row of the table as an effect, or as a preparation and a grant. -/

namespace Sys2Proof.Proofs

open Sys2Proof.Machine Sys2Proof.Safety Sys2Proof.Claims

/-! ### Events at loads -/

/-- The sequencer stands where a load in ON or LOCKED has an event (R34, R40). -/
theorem LoadChange.seq_of_held {s t : State} {n : LoadIx} (h : LoadChange s n t)
    (held : s.loads[n].state = .on ∨ s.loads[n].state = .locked) : t.seq = s.seq := by
  obtain ⟨-, -, seq⟩ | ⟨new, -, notStarting, -, joins, seq⟩ := h.moved
  · exact seq
  have notQueued : new ≠ .queued := fun queued => by
    obtain ⟨idle, -⟩ := joins queued
    obtain on | locked := held
    · rw [Idle, on] at idle; simp at idle
    · rw [Idle, locked] at idle; simp at idle
  rw [seq, onLeave_of_ne (by obtain h | h := held <;> rw [h] <;> decide) (by obtain h | h := held <;> rw [h] <;> decide)]
  cases new with
  | queued => exact absurd rfl notQueued
  | starting => exact absurd rfl notStarting
  | off | on | shed | tripped | locked => rfl

/-- An event at a load in ON or LOCKED is the whole effect of a command. -/
theorem Effect.held {c : Instr} {s t : State} {n : LoadIx} (change : LoadChange s n t)
    (held : s.loads[n].state = .on ∨ s.loads[n].state = .locked) : Effect c s t :=
  .load (SameCore.refl s).quiet rfl change (change.seq_of_held held)

/-- Events at several loads before a grant. -/
theorem Prepares.changes {s t : State} {ns : List LoadIx} (distinct : ns.Nodup) (changes : LoadChanges s ns t) :
    Prepares s t :=
  .loads (SameCore.refl s).quiet distinct changes

/-- A vector at the index that is set, and at another. -/
theorem vector_set_self {α : Type} {n : Nat} (k : Fin n) (v : Vector α n) (x : α) : (v.set k x)[k] = x := Vector.getElem_set_self _

theorem vector_set_other {α : Type} {n : Nat} {j k : Fin n} (ne : j ≠ k) (v : Vector α n) (x : α) : (v.set k x)[j] = v[j] :=
  Vector.getElem_set_ne k.isLt j.isLt fun e => ne (Fin.ext e.symm)

/-! ### The ladders (R49, R51 to R56, R70) -/

theorem ladderConfig_ok {c : LadderConfig} (ok : c.ok = true) : 1 ≤ c.confirm ∧ c.top ≤ 4 ∧ c.fault ≤ c.top := by
  simp only [LadderConfig.ok, Bool.and_eq_true, decide_eq_true_eq] at ok
  omega

theorem upLevel_le {c : LadderConfig} (ok : c.ok = true) (reading : Reading) : c.upLevel reading ≤ c.top := by
  cases reading with
  | none => exact (ladderConfig_ok ok).2.2
  | some v => exact (highest_spec _ _).1

theorem downLevel_le {c : LadderConfig} (ok : c.ok = true) {level : Nat} (le : level ≤ c.top) (reading : Reading) :
    c.downLevel level reading ≤ c.top := by
  cases reading with
  | none => exact (ladderConfig_ok ok).2.2
  | some v =>
    have below := (highest_spec (fun k => !c.direction.cleared v (c.exitAt k)) (level - 1)).1
    exact Nat.le_trans below (by omega)

/-- From s to t ladders have taken readings: their records alone have changed, lawfully (R49, R54). -/
structure LaddersRead (s t : State) : Prop where
  ws : t.ws = s.ws
  loads : t.loads = s.loads
  seq : t.seq = s.seq
  quals : t.quals = s.quals
  phase : t.phase = s.phase
  sev : t.sev = { s.sev with ladders := t.sev.ladders }
  lawful : ∀ k : LadderIx, s.ws.ladders[k].ok = true → LadderOk s.ws.ladders[k] s.sev.ladders[k] →
    LadderOk s.ws.ladders[k] t.sev.ladders[k]

theorem LaddersRead.refl (s : State) : LaddersRead s s := ⟨rfl, rfl, rfl, rfl, rfl, rfl, fun _ _ h => h⟩

theorem LaddersRead.trans {s t u : State} (h : LaddersRead s t) (g : LaddersRead t u) : LaddersRead s u where
  ws := g.ws.trans h.ws
  loads := g.loads.trans h.loads
  seq := g.seq.trans h.seq
  quals := g.quals.trans h.quals
  phase := g.phase.trans h.phase
  sev := by rw [g.sev, h.sev]
  lawful k ok law := by
    have second := g.lawful k
    rw [h.ws] at second
    exact second ok (h.lawful k ok law)

/-- The record of ladder k replaced, and reports posted. -/
theorem LaddersRead.set {s t : State} {k : LadderIx} {r : Ladder} {store : Store}
    (eq : t = { s.setLadderRec k r with store := store })
    (lawful : s.ws.ladders[k].ok = true → LadderOk s.ws.ladders[k] s.sev.ladders[k] → LadderOk s.ws.ladders[k] r) :
    LaddersRead s t := by
  subst eq
  refine ⟨rfl, rfl, rfl, rfl, rfl, rfl, fun j ok law => ?_⟩
  by_cases same : j = k
  · subst same
    rw [show (State.setLadderRec j r s).sev.ladders[j] = r from vector_set_self j _ r]
    exact lawful ok law
  · rw [show (State.setLadderRec k r s).sev.ladders[j] = s.sev.ladders[j] from vector_set_other same _ r]
    exact law

/-- An evaluation counts, changes the level, or clears the streaks, within the ladder's laws (R51 to R55). -/
theorem laddersRead_evaluateLadder (k : LadderIx) (reading : Reading) (s : State)
    (enabled : s.ws.ladders[k].enabled = true) : LaddersRead s (s.evaluateLadder k reading) := by
  have live : ∀ {p : Prop}, s.ws.ladders[k].enabled = false → p := fun off => absurd (enabled.symm.trans off) (by decide)
  obtain ⟨-, fits, eq⟩ | ⟨-, -, eq⟩ | ⟨-, -, fits, eq⟩ | ⟨-, -, -, eq⟩ | ⟨-, -, eq⟩ := s.evaluateLadder_cases k reading
  · exact .set eq fun ok ⟨_, level, _⟩ => ⟨live, level, .inr fits, .inl rfl, .inr rfl⟩
  · exact .set eq fun ok _ => ⟨live, upLevel_le ok reading, .inl rfl, .inl rfl, .inl rfl⟩
  · exact .set eq fun ok ⟨_, level, _⟩ => ⟨live, level, .inl rfl, .inr fits, .inl rfl⟩
  · exact .set eq fun ok ⟨_, level, _⟩ => ⟨live, downLevel_le ok level reading, .inl rfl, .inl rfl, .inl rfl⟩
  · exact .set eq fun ok ⟨_, level, _⟩ => ⟨live, level, .inl rfl, .inl rfl, .inl rfl⟩

theorem laddersRead_ladderTakes (d : Delivery (List LadderIx)) (k : LadderIx) (s : State) : LaddersRead s (s.ladderTakes d k) := by
  obtain ⟨-, eq⟩ | ⟨-, enabled, -, eq⟩ := s.ladderTakes_cases d k <;> rw [eq]
  · exact .refl s
  · exact laddersRead_evaluateLadder k d.reading s enabled

theorem laddersRead_foldl (d : Delivery (List LadderIx)) :
    ∀ (ks : List LadderIx) (s : State), LaddersRead s (ks.foldl (fun t k => t.ladderTakes d k) s)
  | [], s => .refl s
  | k :: ks, s => (laddersRead_ladderTakes d k s).trans (laddersRead_foldl d ks _)

theorem ladderOk_reset {c : LadderConfig} : LadderOk c Ladder.reset :=
  ⟨fun _ => rfl, Nat.zero_le _, .inl rfl, .inl rfl, .inl rfl⟩

/-- A SET LADDER replaces its ladder's record alone, by one that the new configuration allows (R70). -/
theorem resetLadder_sev {k : LadderIx} {old new : LadderConfig} {s : State} :
    ∃ r, (s.resetLadder k old new).sev = { s.sev with ladders := s.sev.ladders.set k r } ∧
      (LadderOk old s.sev.ladders[k] → LadderOk new r) := by
  have stands : s.sev = { s.sev with ladders := s.sev.ladders.set k s.sev.ladders[k] } := by simp
  unfold State.resetLadder
  cases was : old.enabled <;> cases is : new.enabled <;> dsimp only
  · exact ⟨_, stands, fun ⟨off, _⟩ => off was ▸ ladderOk_reset⟩
  · exact ⟨_, rfl, fun _ => ladderOk_reset⟩
  · split
    case isTrue zero => exact ⟨_, rfl, fun _ => by rw [zero]; exact ladderOk_reset⟩
    case isFalse => exact ⟨_, rfl, fun _ => ladderOk_reset⟩
  · have live : ∀ {p : Prop}, new.enabled = false → p := fun off => absurd (is.symm.trans off) (by decide)
    split
    case isTrue => exact ⟨_, rfl, fun _ => ⟨live, Nat.le_refl _, .inl rfl, .inl rfl, .inl rfl⟩⟩
    case isFalse within => exact ⟨_, rfl, fun _ => ⟨live, Nat.not_lt.mp within, .inl rfl, .inl rfl, .inl rfl⟩⟩

/-! ### What the owners of the requests answer -/

theorem nodup_filter_allLoads (p : LoadIx → Bool) : (allLoads.filter p).Nodup := List.Nodup.filter p (by decide)

theorem nodup_maskLoads (mask : Nat) : (maskLoads mask).Nodup := nodup_filter_allLoads _

section

variable {c : Instr} (b : List Byte) (s : State)

/-- A refusal changes nothing (R144). -/
theorem leaves_refuse (st : Status) : Leaves c s (Answer.refuse st s).state := .of_sameCore (.refl s)

theorem leaves_answerGrant : Leaves c s (answerGrant b s).state := by
  unfold answerGrant
  repeat' split
  all_goals exact .of_sameCore ⟨⟨rfl, rfl, rfl, rfl, rfl⟩, rfl, rfl⟩

theorem leaves_answerAck : Leaves c s (answerAck b s).state := by
  unfold answerAck
  repeat' split
  all_goals exact .of_sameCore ⟨⟨rfl, rfl, rfl, rfl, rfl⟩, rfl, rfl⟩

theorem leaves_answerResend : Leaves c s (answerResend b s).state := by
  unfold answerResend
  split
  all_goals exact .of_sameCore ⟨⟨rfl, rfl, rfl, rfl, rfl⟩, rfl, rfl⟩

theorem leaves_answerSnapshot : Leaves c s (answerSnapshot b s).state := by
  unfold answerSnapshot
  split
  all_goals exact .of_sameCore ⟨⟨rfl, rfl, rfl, rfl, rfl⟩, rfl, rfl⟩

theorem leaves_answerReadLoad : Leaves c s (answerReadLoad b s).state := by
  unfold answerReadLoad
  repeat' split
  all_goals exact .of_sameCore (.refl s)

theorem leaves_answerReadSeverity : Leaves c s (answerReadSeverity b s).state := by
  unfold answerReadSeverity
  repeat' split
  all_goals exact .of_sameCore (.refl s)

theorem leaves_answerReadChannels : Leaves c s (answerReadChannels b s).state := by
  unfold answerReadChannels
  repeat' split
  all_goals exact .of_sameCore (.refl s)

theorem leaves_answerReadWatch : Leaves c s (answerReadWatch b s).state := by
  unfold answerReadWatch
  repeat' split
  all_goals exact .of_sameCore (.refl s)

theorem leaves_answerReadSystem : Leaves c s (answerReadSystem b s).state := by
  unfold answerReadSystem
  split
  all_goals exact .of_sameCore (.refl s)

theorem leaves_answerReadLink : Leaves c s (answerReadLink b s).state := by
  unfold answerReadLink
  repeat' split
  all_goals exact .of_sameCore ⟨⟨rfl, rfl, rfl, rfl, rfl⟩, rfl, rfl⟩

theorem leaves_answerSave : Leaves c s (answerSave b s).state := by
  unfold answerSave
  repeat' split
  all_goals exact .of_sameCore ⟨⟨rfl, rfl, rfl, rfl, rfl⟩, rfl, rfl⟩

theorem leaves_answerReset : Leaves c s (answerReset b s).state := by
  unfold answerReset
  split
  all_goals exact .of_sameCore ⟨⟨rfl, rfl, rfl, rfl, rfl⟩, rfl, rfl⟩

theorem leaves_answerAckWatch : Leaves c s (answerAckWatch b s).state := by
  unfold answerAckWatch
  repeat' split
  all_goals exact .of_sameCore ⟨⟨rfl, rfl, rfl, rfl, rfl⟩, rfl, rfl⟩

/-- A channel's configuration touches no load and no ladder. -/
theorem quiet_configureChannel (ch : ChanIx) (new : ChannelConfig) : Quiet s (s.configureChannel ch new) :=
  ⟨⟨rfl, rfl, rfl⟩, rfl, rfl, rfl, rfl, .inl, fun _ => rfl, id⟩

theorem leaves_answerSetChannel : Leaves c s (answerSetChannel b s).state := by
  unfold answerSetChannel
  repeat' split
  all_goals try exact leaves_refuse s _
  exact Effect.leaves (.quiet (quiet_configureChannel s _ _) (.inl rfl))

/-- Nor does a watch's. -/
theorem quiet_configureWatch (w : WatchIx) (new : WatchConfig) : Quiet s (s.configureWatch w new) :=
  ⟨⟨rfl, rfl, rfl⟩, rfl, rfl, rfl, rfl, .inl, fun _ => rfl, id⟩

theorem leaves_answerSetWatch : Leaves c s (answerSetWatch b s).state := by
  have primed : ∀ w new, (s.configureWatch w new).scan.primed = s.scan.primed := fun w new => by
    simp only [State.configureWatch, State.setDirty_scan]
    split <;> rfl
  unfold answerSetWatch
  repeat' split
  all_goals try exact leaves_refuse s _
  exact Effect.leaves (.quiet (quiet_configureWatch s _ _) (.inl (primed _ _)))

theorem leaves_answerClear : Leaves c s (answerClear b s).state := by
  unfold answerClear
  repeat' split
  all_goals try exact leaves_refuse s _
  case _ locked => exact Effect.leaves (.held (loadChange_clearLoad locked) (.inr locked))

theorem leaves_answerSetLoad : Leaves c s (answerSetLoad b s).state := by
  unfold answerSetLoad
  repeat' split
  all_goals try exact leaves_refuse s _
  case _ off => exact Effect.leaves (.configure _ _ off)

/-- A new host floor opens the depth (R58). -/
theorem depthOpen_floor {floor : Nat} (le : floor ≤ 4) : DepthOpen s { s with sev := { s.sev with hostFloor := floor } } :=
  ⟨⟨rfl, rfl, rfl⟩, rfl, rfl, rfl, fun _ law => law, fun _ => le, fun law running => law running⟩

/-- So does a new ladder configuration (R70). -/
theorem depthOpen_ladder {k : LadderIx} {new : LadderConfig} {scan : Scanner} :
    DepthOpen s
      (State.resetLadder k s.ws.ladders[k] new
        (State.setDirty { s with ws := { s.ws with ladders := s.ws.ladders.set k new }, scan := scan })) := by
  obtain ⟨r, sev, law⟩ := resetLadder_sev (k := k) (old := s.ws.ladders[k]) (new := new)
    (s := State.setDirty { s with ws := { s.ws with ladders := s.ws.ladders.set k new }, scan := scan })
  refine ⟨⟨by simp, by simp, by simp⟩, by simp, by rw [sev]; rfl, by simp, fun _ laws j => ?_, fun le => by rw [sev]; exact le,
    fun follows running => ?_⟩
  · rw [sev, State.resetLadder_ws]
    change LadderOk (s.ws.ladders.set k new)[j] (s.sev.ladders.set k r)[j]
    by_cases same : j = k
    · rw [same, vector_set_self, vector_set_self]
      exact law (laws k)
    · rw [vector_set_other same, vector_set_other same]
      exact laws j
  · rw [sev, State.resetLadder_quals]
    exact follows (by simpa using running)

/-- So do new globals, by the shed input level (R57). -/
theorem depthOpen_globals (g : Globals) : DepthOpen s (State.setDirty { s with ws := { s.ws with globals := g } }) :=
  ⟨⟨rfl, rfl, rfl⟩, rfl, rfl, rfl, fun _ laws => laws, id, fun follows running => follows running⟩

/-- So does a reading at the ladders (R51). -/
theorem LaddersRead.depthOpen {s t : State} (h : LaddersRead s t) : DepthOpen s t where
  configs := by rw [h.ws]
  loads := h.loads
  seq := h.seq
  cutoff := by rw [h.ws]
  depth := by rw [h.sev]
  kill := by rw [h.quals]
  ladders ok laws k := by rw [h.ws]; exact h.lawful k (ok k) (laws k)
  floor le := by rw [h.sev]; exact le
  shed follows running := by rw [h.sev, h.quals]; exact follows (h.phase ▸ running)

theorem sameCore_retimeSilence (s : State) : SameCore s s.retimeSilence := by
  unfold State.retimeSilence
  split
  all_goals exact ⟨⟨rfl, rfl, rfl, rfl, rfl⟩, rfl, rfl⟩

variable (considers : considersGrant c = true)
include considers

theorem leaves_answerDemand : Leaves c s (answerDemand b s).state := by
  have off : ∀ ns : List LoadIx, ns.Nodup → Leaves c s (s.eachLoad ns (State.demandOff .demand)).considerGrant :=
    fun ns distinct =>
      Prepares.leaves (.changes distinct (loadChanges_eachLoad (fun _ _ => loadChange_demandOff .demand) ns s)) considers
  have on : ∀ ns : List LoadIx, ns.Nodup → Leaves c s (answerDemandOn ns s).state := fun ns distinct => by
    unfold answerDemandOn
    dsimp only
    split
    · exact leaves_refuse s _
    · exact Prepares.leaves (.changes (distinct.filter _)
        (loadChanges_eachLoad (fun _ _ => loadChange_demandOn .demand) _ s)) considers
  unfold answerDemand
  repeat' split
  all_goals try exact leaves_refuse s _
  · exact on _ (nodup_maskLoads _)
  · exact off _ (nodup_maskLoads _)

theorem leaves_answerForceLevel : Leaves c s (answerForceLevel b s).state := by
  unfold answerForceLevel
  repeat' split
  all_goals try exact leaves_refuse s _
  case _ le => exact Prepares.leaves (.depth (depthOpen_floor s le)) considers

theorem leaves_answerSetLadder : Leaves c s (answerSetLadder b s).state := by
  unfold answerSetLadder
  repeat' split
  all_goals try exact leaves_refuse s _
  exact Prepares.leaves (.depth (depthOpen_ladder s)) considers

theorem leaves_answerSetCutoff : Leaves c s (answerSetCutoff b s).state := by
  unfold answerSetCutoff
  repeat' split
  all_goals try exact leaves_refuse s _
  exact Prepares.leaves (.cutoff _) considers

theorem leaves_answerSetScan : Leaves c s (answerSetScan b s).state := by
  have quiet : ∀ list pause, Quiet s (State.setDirty { s with
      ws := { s.ws with scanList := list, cyclePause := pause }, scan := (s.scan.restart list).checkPriming list }) :=
    fun _ _ => ⟨⟨rfl, rfl, rfl⟩, rfl, rfl, rfl, rfl, .inl, fun _ => rfl, id⟩
  unfold answerSetScan
  repeat' split
  all_goals try exact leaves_refuse s _
  exact Prepares.leaves (.loads (quiet _ _) List.nodup_nil (.nil _)) considers

theorem leaves_answerSetGlobals : Leaves c s (answerSetGlobals b s).state := by
  unfold answerSetGlobals
  repeat' split
  all_goals try exact leaves_refuse s _
  exact (Prepares.leaves (.depth (depthOpen_globals s _)) considers).sameCore (sameCore_retimeSilence _)

end

/-! ### What the events of the expiries do -/

section

variable {c : Instr} (s : State)

theorem leaves_endSave (v : Save) (verified : Bool) : Leaves c s (s.endSave v verified) := by
  cases verified <;> exact .of_sameCore ⟨⟨rfl, rfl, rfl, rfl, rfl⟩, rfl, rfl⟩

theorem leaves_interbyteExpires : Leaves c s s.interbyteExpires := .of_sameCore ⟨⟨rfl, rfl, rfl, rfl, rfl⟩, rfl, rfl⟩

theorem begin_primed (list : List ChanIx) (i : Nat) (scan : Scanner) : (scan.begin list i).primed = scan.primed := by
  unfold Scanner.begin
  split <;> rfl

theorem leaves_pauseExpires : Leaves c s s.pauseExpires :=
  Effect.leaves (.quiet ⟨⟨rfl, rfl, rfl⟩, rfl, rfl, rfl, rfl, .inl, fun _ => rfl, id⟩ (.inl (begin_primed _ 0 _)))

theorem leaves_cleanRunExpires {n : LoadIx} (on : s.loads[n].state = .on) : Leaves c s (s.cleanRunExpires n) :=
  Effect.leaves (.held (loadChange_cleanRunExpires on) (.inl on))

/-- A qualified PG, with its trip (R14, R15). -/
theorem leaves_pgQualifies (n : LoadIx) : Leaves c s (s.pgQualifies n) := by
  have quiet : ∀ q, Quiet s (s.setPg n q) := fun _ => ⟨⟨rfl, rfl, rfl⟩, rfl, rfl, rfl, rfl, .inl, fun _ => rfl, id⟩
  unfold State.pgQualifies
  dsimp only
  split
  case isTrue h =>
    obtain ⟨-, on, -⟩ := h
    have change := loadChange_trip (s := s.setPg n (s.quals.pg[n].adopt s.quals.pg[n].highAsserted)) (n := n) (.inr on)
      .feedbackLost
    exact Effect.leaves (.load (quiet _) rfl change (change.seq_of_held (.inl on)))
  case isFalse => exact Effect.leaves (.quiet (quiet _) (.inl rfl))

/-- A qualified KILL or SHED is held back until start-up ends (R194, R196). -/
theorem leaves_held {t : State} {quals : Qualifiers} (stopped : s.phase ≠ .running) (eq : t = { s with quals := quals }) :
    Leaves c s t := by
  subst eq
  exact Effect.leaves (.quiet ⟨⟨rfl, rfl, rfl⟩, rfl, rfl, rfl, rfl, fun _ => .inr stopped,
    fun running => absurd running stopped, id⟩ (.inl rfl))

variable (considers : considersGrant c = true)
include considers

theorem leaves_settleExpires {n : LoadIx} (starting : s.loads[n].state = .starting) : Leaves c s (s.settleExpires n) :=
  Prepares.leaves (.changes (List.nodup_singleton n) (loadChange_settled starting _).changes) considers

theorem leaves_backoffExpires {n : LoadIx} (tripped : s.loads[n].state = .tripped) : Leaves c s (s.backoffExpires n) :=
  Prepares.leaves (.changes (List.nodup_singleton n) (loadChange_backoffEnded tripped).changes) considers

theorem leaves_gapExpires : Leaves c s s.gapExpires := Prepares.leaves .gap considers

/-- An event at every load, and a grant. -/
theorem leaves_eachLoad {t : State} {op : LoadIx → State → State} (change : ∀ n u, LoadChange u n (op n u)) (quiet : Quiet s t) :
    Leaves c s (t.eachLoad allLoads op).considerGrant :=
  Prepares.leaves (.loads quiet (by decide) (loadChanges_eachLoad change allLoads t)) considers

theorem leaves_holdExpires : Leaves c s s.holdExpires :=
  leaves_eachLoad s considers (fun _ _ => loadChange_restoreLoad)
    ⟨⟨rfl, rfl, rfl⟩, rfl, rfl, rfl, rfl, .inl, fun _ => rfl, id⟩

theorem leaves_loseHost : Leaves c s s.loseHost := by
  have lost : SameCore s { s with session := { s.session with state := .lost, silence := .stopped } } :=
    ⟨⟨rfl, rfl, rfl, rfl, rfl⟩, rfl, rfl⟩
  have disarmed : ∀ {u : State}, SameCore s u → SameCore s { u with store := { u.store.requeue with credits := 0 } } := fun h =>
    h.trans ⟨⟨rfl, rfl, rfl, rfl, rfl⟩, rfl, rfl⟩
  have orphans := leaves_eachLoad s considers (op := State.orphanAction) (fun _ _ => loadChange_orphanAction)
    (disarmed (lost.trans (sameCore_post [.hostLost s.ws.globals.silenceTimeout] _))).quiet
  unfold State.loseHost
  exact orphans

theorem leaves_killQualifies : Leaves c s s.killQualifies := by
  unfold State.killQualifies
  dsimp only
  split
  case isTrue running => exact Prepares.leaves (.kill _ running rfl) considers
  case isFalse stopped => exact leaves_held s stopped rfl

/-- The qualified SHED state opens the depth (R57). -/
theorem leaves_shedQualifies : Leaves c s s.shedQualifies := by
  unfold State.shedQualifies State.handShed
  dsimp only
  split
  case isTrue running =>
    exact Prepares.leaves (.depth ⟨⟨rfl, rfl, rfl⟩, rfl, rfl, rfl, fun _ laws => laws, id, fun _ _ => rfl⟩) considers
  case isFalse stopped => exact leaves_held s stopped rfl

end

end Sys2Proof.Proofs
end

section
/-! PROOFS. Every row of the table acts: it makes the grant that is due before it, lets time pass, and leaves its effect, with a
grant where the sequencer considers one. -/

namespace Sys2Proof.Proofs

open Sys2Proof.Machine Sys2Proof.Safety Sys2Proof.Claims

/-! ### The line, the session and the watches -/

theorem sameCore_noticeGoodFrame (kind tag : Byte) (s : State) : SameCore s (s.noticeGoodFrame kind tag) := by
  unfold State.noticeGoodFrame
  split
  · exact .refl s
  · split
    exacts [.refl s, ⟨⟨rfl, rfl, rfl, rfl, rfl⟩, rfl, rfl⟩]
  · exact ⟨⟨rfl, rfl, rfl, rfl, rfl⟩, rfl, rfl⟩

theorem sameCore_queueInbound (f : Frame) (s : State) : SameCore s (s.queueInbound f) := by
  unfold State.queueInbound
  split
  all_goals exact ⟨⟨rfl, rfl, rfl, rfl, rfl⟩, rfl, rfl⟩

theorem sameCore_setFramer (f : Framer) (s : State) : SameCore s (s.setFramer f) := ⟨⟨rfl, rfl, rfl, rfl, rfl⟩, rfl, rfl⟩

theorem sameCore_countLink (f : LinkStats → LinkStats) (s : State) : SameCore s (s.countLink f) :=
  ⟨⟨rfl, rfl, rfl, rfl, rfl⟩, rfl, rfl⟩

theorem sameCore_closeFrame (f : Frame) (s : State) : SameCore s (s.closeFrame f) := by
  unfold State.closeFrame
  split
  · exact ((sameCore_setFramer _ s).trans (sameCore_noticeGoodFrame _ _ _)).trans (sameCore_queueInbound f _)
  · exact (sameCore_setFramer _ s).trans (sameCore_countLink _ _)

theorem sameCore_frameByte (b : Byte) (s : State) : SameCore s (s.frameByte b) := by
  unfold State.frameByte
  split
  case h_1 => split; exacts [sameCore_setFramer _ s, .refl s]
  case h_2 => split; exacts [sameCore_setFramer _ s, (sameCore_setFramer _ s).trans (sameCore_countLink _ _)]
  case h_7 => exact sameCore_closeFrame _ s
  all_goals exact sameCore_setFramer _ s

theorem sameCore_answerHello (b : List Byte) (s : State) : SameCore s (answerHello b s).state := by
  unfold answerHello
  split
  all_goals exact ⟨⟨rfl, rfl, rfl, rfl, rfl⟩, rfl, rfl⟩

theorem sameCore_watchTakes (d : Delivery (List WatchIx)) (w : WatchIx) (s : State) : SameCore s (s.watchTakes d w) := by
  unfold State.watchTakes State.evaluateWatch
  dsimp only
  repeat' split
  all_goals exact ⟨⟨rfl, rfl, rfl, rfl, rfl⟩, rfl, rfl⟩

theorem sameCore_watches (d : Delivery (List WatchIx)) :
    ∀ (ws : List WatchIx) (s : State), SameCore s (ws.foldl (fun t w => t.watchTakes d w) s)
  | [], s => .refl s
  | w :: ws, s => (sameCore_watchTakes d w s).trans (sameCore_watches d ws _)

/-! ### The scanner and the pins -/

/-- A state that differs from s in the scanner, the store and the line alone. -/
theorem quiet_scan {s : State} (scan : Scanner) : Quiet s { s with scan := scan } :=
  ⟨⟨rfl, rfl, rfl⟩, rfl, rfl, rfl, rfl, .inl, fun _ => rfl, id⟩

theorem sameCore_sensorReport (ch : ChanIx) (raw : Nat) (s : State) : SameCore s (s.sensorReport ch raw) := by
  unfold State.sensorReport
  dsimp only
  split
  exacts [.refl s, sameCore_post _ s]

theorem next_primed (list : List ChanIx) (pause : Nat) (restart : Bool) (c : Scanner) :
    (c.next list pause restart).primed = c.primed := by
  unfold Scanner.next
  split
  · exact begin_primed ..
  · split
    · exact begin_primed ..
    · split
      exacts [begin_primed .., rfl]

/-- A reading touches no load; its priming check may set the priming flag (R84). -/
theorem effect_readingArrives (ch : ChanIx) (restart : Bool) (raw raw' : Nat) (s : State) :
    Effect (.readingArrival raw') s (s.readingArrives ch restart raw) := by
  have quiet : Quiet s (s.readingArrives ch restart raw) := by
    have report := (sameCore_sensorReport ch raw s).quiet
    exact ⟨⟨report.configs, report.loads, report.seq⟩, report.ladders, report.cutoff, report.globals, report.sev, report.kill,
      report.shed, report.phase⟩
  refine .quiet quiet ?_
  by_cases was : s.scan.primed = true
  · refine .inl ?_
    have kept : (s.sensorReport ch raw).scan.primed = true := by rw [(sameCore_sensorReport ch raw s).scan, was]
    unfold State.readingArrives
    dsimp only
    rw [next_primed, was]
    simp only [Scanner.deliver, Scanner.checkPriming, kept, Bool.true_or]
  · exact .inr ⟨⟨raw', rfl⟩, Bool.eq_false_iff.mpr was⟩

theorem pinTo_qualified (runs activeHigh : Bool) (time : Nat) (level : PinLevel) (q : Qualifier) :
    (q.pinTo runs activeHigh time level).qualified = q.qualified := by
  obtain ⟨-, eq⟩ | ⟨-, -, eq⟩ | ⟨-, -, eq⟩ := q.pinTo_cases runs activeHigh time level <;> rw [eq]

/-- A pin change leaves the qualified states (R14, R196). -/
theorem quiet_pins {s : State} {q : Qualifiers} (kill : q.kill.qualified = s.quals.kill.qualified)
    (shed : q.shed.qualified = s.quals.shed.qualified) : Quiet s { s with quals := q } :=
  ⟨⟨rfl, rfl, rfl⟩, rfl, rfl, rfl, rfl, fun asserted => .inl (kill ▸ asserted), fun _ => shed, id⟩

/-! ### A reading at a load -/

theorem leaves_loadTakes {c : Instr} (considers : considersGrant c = true) {s t : State} (quiet : Quiet s t)
    (primed : t.scan.primed = s.scan.primed) (n : LoadIx) (reading : Reading) : Leaves c s (t.loadTakes n reading) := by
  have starting : ∀ {u}, LoadChange t n u → Leaves c s u.considerGrant := fun change =>
    Prepares.leaves (.loads quiet (List.nodup_singleton n) change.changes) considers
  have on : t.loads[n].state = .on → ∀ {u}, LoadChange t n u → Leaves c s u := fun on _ change =>
    Effect.leaves (.load quiet primed change (change.seq_of_held (.inl on)))
  unfold State.loadTakes
  split
  case h_1 state => exact starting (loadChange_judgeCurrent (.inl state) _ _ _)
  case h_2 state => exact on state (loadChange_judgeCurrent (.inr state) _ _ _)
  case h_3 state => exact starting (loadChange_countSenseFault (.inl state))
  case h_4 state => exact on state (loadChange_countSenseFault (.inr state))
  all_goals exact Effect.leaves (.quiet quiet (.inl primed))

/-! ### The rows that are no request and no expiry -/

section

variable (s : State)

theorem acts_hello : ∃ t, execHello s = .next t ∧ Acts .hello s t := by
  unfold execHello
  dsimp only
  split
  · exact ⟨_, rfl, _, .settled rfl (.refl _), .of_sameCore (.refl _)⟩
  · exact ⟨_, rfl, _, .settled rfl (sameCore_dropInbound _),
      .of_sameCore (((sameCore_answerHello _ _).trans (sameCore_queueReply _ _ _)).trans (sameCore_kick _))⟩

theorem acts_badKindFrame : ∃ t, execBadKindFrame s = .next t ∧ Acts .badKindFrame s t := by
  unfold execBadKindFrame
  dsimp only
  split
  · exact ⟨_, rfl, _, .settled rfl (.refl _), .of_sameCore (.refl _)⟩
  · exact ⟨_, rfl, _, .settled rfl (sameCore_dropInbound _), .of_sameCore ((sameCore_queueReply _ _ _).trans (sameCore_kick _))⟩

theorem acts_byteArrival (b : Byte) (stopError : Bool) :
    ∃ t, execByteArrival b stopError s = .next t ∧ Acts (.byteArrival b stopError) s t := by
  refine ⟨_, rfl, s, .now rfl (.refl s), .of_sameCore ?_⟩
  split
  · refine .trans ?_ (sameCore_kick _)
    split
    exacts [(sameCore_setFramer _ s).trans (sameCore_countLink _ _), sameCore_frameByte b s]
  · exact .refl s

theorem acts_lineFrees : ∃ t, execLineFrees s = .next t ∧ Acts .lineFrees s t := by
  have idle : SameCore s s.goIdle := ⟨⟨rfl, rfl, rfl, rfl, rfl⟩, rfl, rfl⟩
  have next : SameCore s s.goIdle.kick := idle.trans (sameCore_kick _)
  unfold execLineFrees
  split
  · exact ⟨_, rfl, s, .now rfl (.refl s), .of_sameCore (.refl s)⟩
  · exact ⟨_, rfl, s, .now rfl (.refl s), .of_sameCore next⟩
  · refine ⟨_, rfl, s, .now rfl (.refl s), ?_⟩
    split
    exacts [Effect.leaves (.reset .held .request (by decide)), .of_sameCore next]

theorem acts_pinReset : ∃ t, execPinReset s = .next t ∧ Acts .pinReset s t := by
  refine ⟨_, rfl, s, .now rfl (.refl s), ?_⟩
  split
  exacts [.of_sameCore (.refl s), Effect.leaves (.reset .held .pin (by decide))]

theorem acts_resetEnd (br1 br0 asInh : PinLevel) :
    ∃ t, execResetEnd br1 br0 asInh s = .next t ∧ Acts (.resetEnd br1 br0 asInh) s t := by
  refine ⟨_, rfl, s, .now rfl (.refl s), ?_⟩
  split
  · have stops : (s.beginStartup { br1 := br1, br0 := br0, asInh := asInh }).phase ≠ .running := by simp [State.beginStartup]
    exact Effect.leaves (.quiet ⟨⟨rfl, rfl, rfl⟩, rfl, rfl, rfl, rfl, .inl, fun running => absurd running stops,
      fun running => absurd running stops⟩ (.inl rfl))
  · exact .of_sameCore (.refl s)

/-- A grant asks nothing of the phase. -/
theorem considerGrant_phase (phase : Phase) :
    State.considerGrant { s with phase := phase } = { s.considerGrant with phase := phase } := by
  unfold State.considerGrant
  dsimp only
  split
  · rfl
  · have due : State.grantDue { s with phase := phase } = s.grantDue := rfl
    rw [due]
    split <;> rfl

theorem sameCore_startRunning (asInh : PinLevel) : SameCore (autostarted asInh s).considerGrant (s.startRunning asInh) := by
  unfold autostarted State.startRunning
  dsimp only
  rw [considerGrant_phase]
  exact ⟨⟨rfl, rfl, rfl, rfl, rfl⟩, rfl, rfl⟩

theorem acts_profileSelection (asInh : PinLevel) :
    ∃ t, execProfileSelection asInh s = .next t ∧ Acts (.profileSelection asInh) s t := by
  refine ⟨_, rfl, ?_⟩
  split
  case isTrue h =>
    obtain ⟨selecting, -⟩ := h
    refine ⟨s.elapse s.startup.left, ⟨_, .refl _⟩, ?_⟩
    have prepares : Prepares (s.elapse s.startup.left) _ := .startUp asInh (by simpa using selecting)
    exact (prepares.leaves rfl).sameCore ((sameCore_startRunning _ asInh).trans (sameCore_kick _))
  case isFalse => exact ⟨s, .now rfl (.refl s), .of_sameCore (.refl s)⟩

theorem acts_readingArrival (raw : Nat) : ∃ t, execReadingArrival raw s = .next t ∧ Acts (.readingArrival raw) s t := by
  unfold execReadingArrival
  dsimp only
  split
  · exact ⟨_, rfl, _, .settled rfl (.refl _), .of_sameCore (.refl _)⟩
  · exact ⟨_, rfl, _, .settled rfl (.refl _), .of_sameCore (.refl _)⟩
  · refine ⟨_, rfl, _, .settled rfl (.refl _), ?_⟩
    split
    · exact (effect_readingArrives _ _ _ raw _).leaves.sameCore (sameCore_kick _)
    · exact .of_sameCore (.refl _)

theorem acts_ladderEvaluation : ∃ t, execLadderEvaluation s = .next t ∧ Acts .ladderEvaluation s t := by
  unfold execLadderEvaluation
  split
  · exact ⟨_, rfl, s, .now rfl (.refl s), .of_sameCore (.refl s)⟩
  case h_2 d rest _ =>
    have taken : LaddersRead s { s with scan := { s.scan with toLadders := rest } } :=
      ⟨rfl, rfl, rfl, rfl, rfl, rfl, fun _ _ law => law⟩
    have prepares : Prepares s _ := .depth (taken.trans (laddersRead_foldl d allLadders _)).depthOpen
    exact ⟨_, rfl, s, .now rfl (.refl s), (prepares.leaves rfl).sameCore (sameCore_kick _)⟩

theorem acts_watchEvaluation : ∃ t, execWatchEvaluation s = .next t ∧ Acts .watchEvaluation s t := by
  unfold execWatchEvaluation
  split
  · exact ⟨_, rfl, s, .now rfl (.refl s), .of_sameCore (.refl s)⟩
  case h_2 d rest _ =>
    have taken : Effect .watchEvaluation s { s with scan := { s.scan with toWatches := rest } } := .quiet (quiet_scan _) (.inl rfl)
    exact ⟨_, rfl, s, .now rfl (.refl s), .stands taken ((sameCore_watches d allWatches _).trans (sameCore_kick _))⟩

theorem acts_loadReading : ∃ t, execLoadReading s = .next t ∧ Acts .loadReading s t := by
  unfold execLoadReading
  split
  · exact ⟨_, rfl, s, .now rfl (.refl s), .of_sameCore (.refl s)⟩
  case h_2 d rest _ =>
    have taken : Quiet s { s with scan := { s.scan with toLoads := rest } } := quiet_scan _
    exact ⟨_, rfl, s, .now rfl (.refl s), (leaves_loadTakes rfl taken rfl d.bound d.reading).sameCore (sameCore_kick _)⟩

theorem acts_startGrant : Acts .startGrant s s.takeGrant :=
  ⟨s, .now rfl (.refl s), .grants rfl (.changes List.nodup_nil (.nil s)) (sameCore_takeGrant s)⟩

theorem acts_pins {c : Instr} (free : followsGrant c = false) {q : Qualifiers}
    (kill : q.kill.qualified = s.quals.kill.qualified) (shed : q.shed.qualified = s.quals.shed.qualified) :
    Acts c s { s with quals := q } :=
  ⟨s, .now free (.refl s), Effect.leaves (.quiet (quiet_pins kill shed) (.inl rfl))⟩

theorem acts_saveEnd (verified : Bool) : ∃ t, execSaveEnd verified s = .next t ∧ Acts (.saveEnd verified) s t := by
  unfold execSaveEnd
  dsimp only
  split
  · exact ⟨_, rfl, _, .settled rfl (.refl _), .of_sameCore (.refl _)⟩
  · exact ⟨_, rfl, acts_whenDue rfl _ s fun p _ => leaves_endSave p _ verified⟩

/-- Every command of the model acts, in every state. -/
theorem exec_acts (c : Instr) : ∃ t, exec c s = .next t ∧ Acts c s t := by
  cases c with
  | hello => exact acts_hello s
  | grant => exact ⟨_, rfl, acts_takeRequest rfl leaves_answerGrant _ _ s⟩
  | ack => exact ⟨_, rfl, acts_takeRequest rfl leaves_answerAck _ _ s⟩
  | resend => exact ⟨_, rfl, acts_takeRequest rfl leaves_answerResend _ _ s⟩
  | snapshot => exact ⟨_, rfl, acts_takeRequest rfl leaves_answerSnapshot _ _ s⟩
  | demand => exact ⟨_, rfl, acts_takeRequest rfl (fun b u => leaves_answerDemand b u rfl) _ _ s⟩
  | clear => exact ⟨_, rfl, acts_takeRequest rfl leaves_answerClear _ _ s⟩
  | setLoad => exact ⟨_, rfl, acts_takeRequest rfl leaves_answerSetLoad _ _ s⟩
  | readLoad => exact ⟨_, rfl, acts_takeRequest rfl leaves_answerReadLoad _ _ s⟩
  | forceLevel => exact ⟨_, rfl, acts_takeRequest rfl (fun b u => leaves_answerForceLevel b u rfl) _ _ s⟩
  | setLadder => exact ⟨_, rfl, acts_takeRequest rfl (fun b u => leaves_answerSetLadder b u rfl) _ _ s⟩
  | setCutoff => exact ⟨_, rfl, acts_takeRequest rfl (fun b u => leaves_answerSetCutoff b u rfl) _ _ s⟩
  | readSeverity => exact ⟨_, rfl, acts_takeRequest rfl leaves_answerReadSeverity _ _ s⟩
  | setScan => exact ⟨_, rfl, acts_takeRequest rfl (fun b u => leaves_answerSetScan b u rfl) _ _ s⟩
  | setChannel => exact ⟨_, rfl, acts_takeRequest rfl leaves_answerSetChannel _ _ s⟩
  | readChannels => exact ⟨_, rfl, acts_takeRequest rfl leaves_answerReadChannels _ _ s⟩
  | setWatch => exact ⟨_, rfl, acts_takeRequest rfl leaves_answerSetWatch _ _ s⟩
  | ackWatch => exact ⟨_, rfl, acts_takeRequest rfl leaves_answerAckWatch _ _ s⟩
  | readWatch => exact ⟨_, rfl, acts_takeRequest rfl leaves_answerReadWatch _ _ s⟩
  | setGlobals => exact ⟨_, rfl, acts_takeRequest rfl (fun b u => leaves_answerSetGlobals b u rfl) _ _ s⟩
  | readSystem => exact ⟨_, rfl, acts_takeRequest rfl leaves_answerReadSystem _ _ s⟩
  | readLink => exact ⟨_, rfl, acts_takeRequest rfl leaves_answerReadLink _ _ s⟩
  | save => exact ⟨_, rfl, acts_takeRequest rfl leaves_answerSave _ _ s⟩
  | reset => exact ⟨_, rfl, acts_takeRequest rfl leaves_answerReset _ _ s⟩
  | badKindFrame => exact acts_badKindFrame s
  | byteArrival b stopError => exact acts_byteArrival s b stopError
  | interbyteTimeout => exact ⟨_, rfl, acts_whenDue rfl _ s fun p _ => leaves_interbyteExpires p⟩
  | lineFrees => exact acts_lineFrees s
  | powerOnReset => exact ⟨_, rfl, s, .now rfl (.refl s), Effect.leaves (.reset .held .powerOn (by decide))⟩
  | pinReset => exact acts_pinReset s
  | resetEnd br1 br0 asInh => exact acts_resetEnd s br1 br0 asInh
  | profileSelection asInh => exact acts_profileSelection s asInh
  | readingArrival raw => exact acts_readingArrival s raw
  | pauseExpiry => exact ⟨_, rfl, acts_whenDue_if rfl _ s _ fun _ p _ => leaves_pauseExpires p⟩
  | ladderEvaluation => exact acts_ladderEvaluation s
  | watchEvaluation => exact acts_watchEvaluation s
  | loadReading => exact acts_loadReading s
  | startGrant => exact ⟨_, rfl, acts_startGrant s⟩
  | settleExpiry n =>
    exact ⟨_, rfl, acts_whenDue_if rfl _ s _ fun state p same => leaves_settleExpires p rfl ((same n).trans state)⟩
  | cleanRunExpiry n =>
    exact ⟨_, rfl, acts_whenDue_if rfl _ s _ fun state p same => leaves_cleanRunExpires p ((same n).trans state)⟩
  | backoffExpiry n =>
    exact ⟨_, rfl, acts_whenDue_if rfl _ s _ fun state p same => leaves_backoffExpires p rfl ((same n).trans state)⟩
  | gapExpiry => exact ⟨_, rfl, acts_whenDue rfl _ s fun p _ => leaves_gapExpires p rfl⟩
  | restoreHoldExpiry => exact ⟨_, rfl, acts_whenDue rfl _ s fun p _ => leaves_holdExpires p rfl⟩
  | silenceExpiry => exact ⟨_, rfl, acts_whenDue_if rfl _ s _ fun _ p _ => leaves_loseHost p rfl⟩
  | saveEnd verified => exact acts_saveEnd s verified
  | pgPinChange n level => exact ⟨_, rfl, acts_pins s rfl rfl rfl⟩
  | pgQualified n => exact ⟨_, rfl, acts_whenDue rfl _ s fun p _ => leaves_pgQualifies p n⟩
  | killPinChange level => exact ⟨_, rfl, acts_pins s rfl (pinTo_qualified ..) rfl⟩
  | killQualified => exact ⟨_, rfl, acts_whenDue rfl _ s fun p _ => leaves_killQualifies p rfl⟩
  | shedPinChange level => exact ⟨_, rfl, acts_pins s rfl rfl (pinTo_qualified ..)⟩
  | shedQualified => exact ⟨_, rfl, acts_whenDue rfl _ s fun p _ => leaves_shedQualifies p rfl⟩
  | powerLoss => exact ⟨_, rfl, s, .now rfl (.refl s), Effect.leaves (.reset .unpowered _ (by decide))⟩

end

end Sys2Proof.Proofs
end

section
/-! PROOFS. The laws of the loads and of the start queue from command to command (O53). -/

namespace Sys2Proof.Proofs

open Sys2Proof.Machine Sys2Proof.Safety Sys2Proof.Claims

/-! ### Until start-up ends (R190, R194) -/

/-- The records, the sequencer and the severity unit hold their reset values (R3, R31, R47). -/
structure CoreAtReset (s : State) : Prop where
  loads : s.loads = Vector.replicate 16 LoadRec.reset
  seq : s.seq = Sequencer.reset
  sev : s.sev = Severity.reset

/-- Until start-up ends they do (R190, R194). -/
def Resting (s : State) : Prop := s.phase ≠ .running → CoreAtReset s

theorem resting_of_resetOk {s : State} (ok : ResetOk s) : Resting s := fun stopped => by
  obtain ⟨blocks, -⟩ := ok
  obtain ⟨loads, seq, sev, -⟩ := blocks stopped
  exact ⟨loads, seq, sev⟩

namespace CoreAtReset

variable {s : State} (h : CoreAtReset s)
include h

theorem load (n : LoadIx) : s.loads[n] = LoadRec.reset := by
  rw [h.loads]; exact Vector.getElem_replicate _

theorem idle (n : LoadIx) : Idle s n := .inl (by rw [h.load]; rfl)

theorem sameCore {t : State} (same : SameCore s t) : CoreAtReset t :=
  ⟨same.loads.trans h.loads, same.seq.trans h.seq, same.sev.trans h.sev⟩

theorem elapse (d : Nat) : CoreAtReset (s.elapse d) := by
  have load : LoadRec.elapse d LoadRec.reset = LoadRec.reset := rfl
  unfold State.elapse
  split
  · exact ⟨by simp [h.loads, load], by simp [h.seq, Sequencer.reset], by simp [h.sev, Severity.reset]⟩
  · exact h

/-- With an empty queue no grant is made. -/
theorem considerGrant : s.considerGrant = s := by
  obtain ⟨-, eq⟩ | ⟨e, rest, queue, -⟩ := s.considerGrant_cases
  · exact eq
  · rw [h.seq] at queue; cases queue

/-- Every record is lawful under whatever configuration start-up loads. -/
theorem records (w : Vector LoadConfig 16) (n : LoadIx) : LoadOk w[n] s.loads[n] := by
  rw [h.load]; exact loadOk_reset _

theorem seqOk (w : Vector LoadConfig 16) : SeqOk w s.loads s.seq := by
  rw [h.seq]
  refine ⟨List.nodup_nil, .nil, fun e mem => ?_, fun n queued => ?_, fun n => ?_, fun held => ?_⟩
  · exact absurd mem List.not_mem_nil
  · rw [h.load] at queued; cases queued
  · rw [h.load]; simp [LoadRec.reset, Sequencer.reset]
  · rfl

theorem killOk : KillOk s := fun _ n => by rw [h.load]; rfl

end CoreAtReset

theorem Resting.sameCore {s t : State} (h : Resting s) (same : SameCore s t) : Resting t :=
  fun stopped => (h (same.phase ▸ stopped)).sameCore same

theorem Resting.elapse {s : State} (h : Resting s) (d : Nat) : Resting (s.elapse d) :=
  fun stopped => (h (by simpa using stopped)).elapse d

theorem Resting.considerGrant {s : State} (h : Resting s) : Resting s.considerGrant := fun stopped => by
  have reset := h (by simpa using stopped)
  rw [reset.considerGrant]; exact reset

/-! ### The state on which a command acts -/

/-- What a grant, time and the rest of the part keep holds of the state on which a command acts. -/
theorem Begins.keeps {P : State → Prop} (grant : ∀ u, P u → P u.considerGrant) (time : ∀ d u, P u → P (u.elapse d))
    (rest : ∀ u v, SameCore u v → P u → P v) {c : Instr} {s p : State} (h : Begins c s p) (start : P s) : P p := by
  obtain ⟨d, same⟩ := h
  refine rest _ p same (time d _ ?_)
  split
  exacts [rest _ _ (sameCore_takeGrant s) (grant s start), start]

/-- A command that began at s acts on p: nothing has joined yet, and every law holds. -/
structure Ready (s p : State) : Prop where
  progress : Progress s 0 p
  kill : KillOk p
  idle : ∀ n, Idle p n → Idle s n
  resting : Resting p

theorem Begins.ready {c : Instr} {s p : State} (h : Begins c s p) (reset : ResetOk s) (ok : LoadsOk s) : Ready s p := by
  obtain ⟨records, seq, kill⟩ := loadsOk_iff.mp ok
  refine ⟨?_, ?_, ?_, ?_⟩
  · exact h.keeps (fun _ h => h.considerGrant) (fun d _ h => h.elapse d) (fun _ _ same h => h.sameLoads same.sameLoads)
      (.start records seq)
  · exact h.keeps (fun _ h => h.considerGrant) (fun d _ h => h.elapse d)
      (fun _ _ same h => h.of_loads same.loads fun kill => same.quals ▸ kill) kill
  · exact h.keeps (P := fun u => ∀ n, Idle u n → Idle s n) (fun _ h n idle => h n (idle_considerGrant idle))
      (fun _ _ h n idle => h n (idle_elapse.mp idle)) (fun _ _ same h n idle => h n ((same.sameLoads.idle n).mp idle))
      fun _ idle => idle
  · exact h.keeps (fun _ h => h.considerGrant) (fun d _ h => h.elapse d) (fun _ _ same h => h.sameCore same)
      (resting_of_resetOk reset)

/-- Under KILL that start-up has not handed on yet no load has a demand (R3, R197). -/
theorem KillOk.quiet {s t : State} (h : KillOk s) (resting : Resting s) (quiet : Quiet s t) : KillOk t := fun asserted n => by
  rw [quiet.loads]
  obtain kill | stopped := quiet.kill asserted
  · exact h kill n
  · exact (resting stopped).load n ▸ rfl

/-! ### The depth as a change at loads (R59 to R62) -/

/-- The severity unit with its new depth, before the sheds. -/
def depthSet (s : State) : State :=
  if s.formedDepth = s.sev.depth then { s with sev := { s.sev with contributor := s.contributorOf s.formedDepth } }
  else
    State.post [.depth s.sev.depth s.formedDepth (s.contributorOf s.formedDepth)]
      { s with sev := { s.sev with
        depth := s.formedDepth
        contributor := s.contributorOf s.formedDepth
        hold := if s.sev.depth < s.formedDepth then .stopped else .running (s.ws.globals.restoreHold * 1000) } }

/-- The loads that a rise of the depth sheds. -/
def depthSheds (s : State) : List LoadIx :=
  if s.sev.depth < s.formedDepth then newlyShed s.ws s.sev.depth s.ws s.formedDepth else []

theorem formDepth_eq (s : State) : s.formDepth = (depthSet s).eachLoad (depthSheds s) State.shedLoad := by
  unfold depthSet depthSheds
  obtain ⟨same, eq⟩ | ⟨rise, eq⟩ | ⟨fall, eq⟩ := s.formDepth_cases <;> rw [eq]
  · rw [if_pos same, if_neg (by omega)]; rfl
  · rw [if_neg (Nat.ne_of_gt rise), if_pos rise, if_pos rise]
  · rw [if_neg (Nat.ne_of_lt fall), if_neg (Nat.lt_asymm fall), if_neg (Nat.lt_asymm fall)]; rfl

section

variable (s : State)

theorem depthSet_ws : (depthSet s).ws = s.ws := by unfold depthSet; split <;> rfl
theorem depthSet_loads : (depthSet s).loads = s.loads := by unfold depthSet; split <;> rfl
theorem depthSet_seq : (depthSet s).seq = s.seq := by unfold depthSet; split <;> rfl
theorem depthSet_quals : (depthSet s).quals = s.quals := by unfold depthSet; split <;> rfl
theorem depthSet_phase : (depthSet s).phase = s.phase := by unfold depthSet; split <;> rfl

theorem depthSet_sev : (depthSet s).sev =
    { s.sev with
      depth := s.formedDepth, contributor := s.contributorOf s.formedDepth, hold := (depthSet s).sev.hold } := by
  unfold depthSet
  split
  case isTrue same => rw [same]
  case isFalse => rfl

theorem depthSet_sameLoads : SameLoads s (depthSet s) := ⟨by rw [depthSet_ws], depthSet_loads s, depthSet_seq s⟩

theorem nodup_depthSheds : (depthSheds s).Nodup := by
  unfold depthSheds
  split
  exacts [nodup_filter_allLoads _, List.nodup_nil]

theorem formDepth_changes : LoadChanges (depthSet s) (depthSheds s) s.formDepth :=
  formDepth_eq s ▸ loadChanges_eachLoad (fun _ _ => loadChange_shedLoad) _ _

end

/-! ### Several changes at once -/

/-- Loads named once are at most 16. -/
theorem length_le_of_nodup {ns : List LoadIx} (distinct : ns.Nodup) : ns.length ≤ 16 := by
  simpa using distinct.length_le_card

/-- At most k loads have joined since base, and the records and the sequencer are lawful. -/
def Joined (base : State) (k : Nat) (s : State) : Prop := ∃ j, j ≤ k ∧ Progress base j s

namespace Joined

variable {base s t : State} {k : Nat}

theorem mono (h : Joined base k s) {k' : Nat} (le : k ≤ k') : Joined base k' s :=
  h.imp fun _ ⟨le', progress⟩ => ⟨le'.trans le, progress⟩

/-- Changes at loads that could join in base. -/
theorem changes (h : Joined base k s) {ns : List LoadIx} (changes : LoadChanges s ns t) (distinct : ns.Nodup)
    (idle : ∀ n, Idle s n → Idle base n) (small : k ≤ 1000) : Joined base (k + 16) t := by
  have few := length_le_of_nodup distinct
  obtain ⟨j, le, progress⟩ := h
  obtain ⟨j', le', progress'⟩ := progress.changes changes distinct (fun n _ => idle n) (by omega)
  exact ⟨j', by omega, progress'⟩

theorem same (h : Joined base k s) (same : SameLoads s t) : Joined base k t :=
  h.imp fun _ ⟨le, progress⟩ => ⟨le, progress.sameLoads same⟩

theorem considerGrant (h : Joined base k s) : Joined base k s.considerGrant :=
  h.imp fun _ ⟨le, progress⟩ => ⟨le, progress.considerGrant⟩

/-- A depth formed anew. -/
theorem formDepth (h : Joined base k s) (idle : ∀ n, Idle s n → Idle base n) (small : k ≤ 1000) :
    Joined base (k + 16) s.formDepth :=
  (h.same (depthSet_sameLoads s)).changes (formDepth_changes s) (nodup_depthSheds s)
    (fun n out => idle n (((depthSet_sameLoads s).idle n).mp out)) small

/-- The laws in the words of the claims, and the order of joining (R33). -/
theorem loadsOk (h : Joined base k s) (kill : KillOk s) :
    LoadsOk s ∧ FirstCome base.seq.counter base.seq.queue s.seq.queue := by
  obtain ⟨j, -, progress⟩ := h
  exact ⟨loadsOk_iff.mpr ⟨progress.records, progress.seq, kill⟩, progress.flow.firstCome progress.lawful⟩

end Joined

namespace Ready

variable {s p : State} (h : Ready s p)
include h

theorem joined : Joined s 0 p := ⟨0, Nat.le_refl 0, h.progress⟩

theorem idle_same {t : State} (same : SameLoads p t) (n : LoadIx) (out : Idle t n) : Idle s n :=
  h.idle n ((same.idle n).mp out)

end Ready

/-! ### KILL (R26, R197) -/

/-- A demand OFF leaves no demand at its load (R9). -/
theorem demandOff_demand (cause : Cause) (n : LoadIx) (s : State) : (s.demandOff cause n).loads[n].demand = false := by
  rw [demandOff_eq_act, LoadEvent.act_eq]
  change (s.loads.set n ((offEvent cause).record s s.seq.counter n))[n].demand = false
  rw [set_self]
  unfold LoadEvent.record
  split
  · rw [(LoadRec.enter_keeps _ _ _ _ _).1, (LoadRec.leave_keeps _).2.1]; rfl
  · rfl

/-- Demands OFF at several loads leave a demand at another alone. -/
theorem eachLoad_demandOff_demand (cause : Cause) {m : LoadIx} :
    ∀ (ns : List LoadIx) (s : State), (s.eachLoad ns (State.demandOff cause)).loads[m].demand = true →
      m ∉ ns ∧ s.loads[m].demand = true
  | [], _, on => ⟨List.not_mem_nil, on⟩
  | n :: ns, s, on => by
    obtain ⟨notRest, on⟩ := eachLoad_demandOff_demand cause ns _ on
    by_cases same : m = n
    · subst same; exact absurd ((demandOff_demand cause m s).symm.trans on) (by decide)
    · rw [(loadChange_demandOff cause).other same] at on
      exact ⟨List.not_mem_cons_of_ne_of_not_mem same notRest, on⟩

/-- KILL handed on, as demands OFF at loads. -/
theorem handKill_eq (asserted : Bool) (s : State) :
    s.handKill asserted = (s.post [.kill asserted]).eachLoad (if asserted then allLoads else []) (State.demandOff .kill) := by
  unfold State.handKill State.killLoads
  cases asserted <;> rfl

/-- It sets every demand OFF (R26). -/
theorem killOk_handKill {asserted : Bool} {s : State} (adopted : s.quals.kill.qualified = asserted) :
    KillOk (s.handKill asserted) := fun kill n => by
  rw [State.handKill_quals, adopted] at kill
  refine Bool.eq_false_iff.mpr fun on => ?_
  rw [handKill_eq, if_pos kill] at on
  obtain ⟨absent, -⟩ := eachLoad_demandOff_demand .kill allLoads _ on
  exact absent ((by decide : ∀ n : LoadIx, n ∈ allLoads) n)

theorem handKill_changes (asserted : Bool) (s : State) :
    LoadChanges (s.post [.kill asserted]) (if asserted then allLoads else []) (s.handKill asserted) := by
  rw [handKill_eq]
  exact loadChanges_eachLoad (fun _ _ => loadChange_demandOff .kill) _ _

theorem Joined.handKill {base s : State} {k : Nat} (h : Joined base k s) (asserted : Bool) (idle : ∀ n, Idle s n → Idle base n)
    (small : k ≤ 1000) : Joined base (k + 16) (s.handKill asserted) :=
  (h.same (sameCore_post _ s).sameLoads).changes (handKill_changes asserted s) (by cases asserted <;> decide)
    (fun n out => idle n (((sameCore_post _ s).sameLoads.idle n).mp out)) small

/-! ### A new configuration and a new cutoff table (R29, R65) -/

/-- A load in OFF takes a new configuration (R29). -/
theorem SeqOk.configure {w w' : Vector LoadConfig 16} {loads : Vector LoadRec 16} {q : Sequencer} (h : SeqOk w loads q)
    (same : ∀ n : LoadIx, loads[n].state = .queued → w'[n] = w[n]) : SeqOk w' loads q where
  distinct := h.distinct
  sorted := h.sorted
  entries e mem := by
    obtain ⟨queued, entry, priority⟩ := h.entries e mem
    exact ⟨queued, entry, by rw [same e.load queued]; exact priority⟩
  queued := h.queued
  slot := h.slot
  gap := h.gap

theorem Ready.configure {s p : State} (ready : Ready s p) {n : LoadIx} (off : p.loads[n].state = .off) (new : LoadConfig) :
    Joined s 0 (p.configureLoad n new) ∧ KillOk (p.configureLoad n new) := by
  obtain ⟨⟨lawful, records, seq, flow⟩, kill, -, -⟩ := ready
  refine ⟨⟨0, Nat.le_refl 0, lawful, fun m => ?_, ?_, flow⟩, fun asserted m => ?_⟩
  · change LoadOk (p.ws.loads.set n new)[m] (p.loads.set n _)[m]
    by_cases same : m = n
    · rw [same, vector_set_self, set_self]; exact loadOk_configured (records n) off new
    · rw [vector_set_other same, set_other same]; exact records m
  · refine SeqOk.write (seq.configure fun m queued => ?_) rfl rfl
    refine vector_set_other (fun same => ?_) _ new
    rw [same, off] at queued
    cases queued
  · change (p.loads.set n _)[m].demand = false
    by_cases same : m = n
    · rw [same, set_self]; exact kill asserted n
    · rw [set_other same]; exact kill asserted m

/-- The part under a new cutoff table, before its sheds. -/
def withCutoff (table : Vector Nat 4) (s : State) : State := State.setDirty { s with ws := { s.ws with cutoff := table } }

/-- The loads that a new cutoff table sheds, at the depth that stands. -/
def cutoffSheds (table : Vector Nat 4) (s : State) : List LoadIx :=
  newlyShed s.ws s.sev.depth (withCutoff table s).ws s.sev.depth

/-- The part after these sheds. -/
def cutoffShed (table : Vector Nat 4) (s : State) : State :=
  (withCutoff table s).eachLoad (cutoffSheds table s) State.shedLoad

theorem nodup_cutoffSheds (table : Vector Nat 4) (s : State) : (cutoffSheds table s).Nodup := by
  unfold cutoffSheds newlyShed
  exact nodup_filter_allLoads _

theorem cutoffShed_changes (table : Vector Nat 4) (s : State) :
    LoadChanges (withCutoff table s) (cutoffSheds table s) (cutoffShed table s) :=
  loadChanges_eachLoad (fun _ _ => loadChange_shedLoad) _ _

/-- The restore hold alone may follow (R66). -/
theorem cutoffReplaced_eq (table : Vector Nat 4) (s : State) :
    ∃ hold, cutoffReplaced table s = { cutoffShed table s with sev := { (cutoffShed table s).sev with hold := hold } } := by
  change ∃ hold, (if (cutoffShed table s).unshedWaits then (cutoffShed table s).startHold else cutoffShed table s) = _
  split
  exacts [⟨_, rfl⟩, ⟨(cutoffShed table s).sev.hold, rfl⟩]

/-! ### Start-up (R193 to R195) -/

/-- Step 4 of start-up up to the hand-over of KILL (R194). -/
def startupKilled (s : State) : State :=
  if s.quals.kill.qualified then ((s.post [s.resetReport]).post [s.profileLoadedReport]).handKill true
  else (s.post [s.resetReport]).post [s.profileLoadedReport]

/-- Step 4 with the shed input, before the depth follows it (R57, R198). -/
def startupShedInput (s : State) : State :=
  let t := (startupKilled s).post [.shedInput true (startupKilled s).ws.globals.shedInputLevel]
  { t with sev := { t.sev with shedInput := true } }

theorem startupReports_eq (s : State) :
    s.startupReports =
      if s.quals.shed.qualified then (startupShedInput s).formDepth else startupKilled s := rfl

section

variable {s p : State} (ready : Ready s p) (selecting : p.phase = .selecting)
include ready selecting

theorem Ready.reset : CoreAtReset p := ready.resting (by rw [selecting]; decide)

theorem Ready.all_idle (n : LoadIx) : Idle s n := ready.idle n ((ready.reset selecting).idle n)

theorem joined_startupKilled : Joined s 16 (startupKilled p.selectProfile) := by
  have reset := ready.reset selecting
  have loaded : Joined s 0 p.selectProfile :=
    ⟨0, Nat.le_refl 0, ready.progress.lawful, reset.records _, reset.seqOk _, ready.progress.flow⟩
  have reported := (loaded.same (sameCore_post [p.selectProfile.resetReport] _).sameLoads).same
    (sameCore_post [p.selectProfile.profileLoadedReport] _).sameLoads
  unfold startupKilled
  split
  exacts [reported.handKill true (fun n _ => ready.all_idle selecting n) (by omega), reported.mono (by omega)]

theorem joined_startupReports : Joined s 32 p.selectProfile.startupReports := by
  have killed := joined_startupKilled ready selecting
  rw [startupReports_eq]
  split
  · have handed : Joined s 16 (startupShedInput p.selectProfile) := killed.same ⟨rfl, rfl, rfl⟩
    exact handed.formDepth (fun n _ => ready.all_idle selecting n) (by omega)
  · exact killed.mono (by omega)

end

/-- Autostart as events at loads; the scanner begins before it, and the phase changes after it. -/
theorem autostarted_changes (asInh : PinLevel) (u : State) :
    ∃ v ns w, SameLoads u v ∧ v.quals = u.quals ∧ v.ws = u.ws ∧ v.sev = u.sev ∧ ns.Nodup ∧ LoadChanges v ns w ∧
      autostarted asInh u = { w with phase := .running } := by
  refine ⟨{ u with scan := u.scan.begin u.ws.scanList 0 }, ?_⟩
  unfold autostarted
  dsimp only
  split
  · exact ⟨allLoads, _, ⟨rfl, rfl, rfl⟩, rfl, rfl, rfl, by decide,
      loadChanges_eachLoad (fun _ _ => loadChange_autostartLoad) _ _, rfl⟩
  · exact ⟨[], _, ⟨rfl, rfl, rfl⟩, rfl, rfl, rfl, List.nodup_nil, .nil _, rfl⟩

/-! ### What each command leaves -/

theorem Ready.quiet {s p t : State} (ready : Ready s p) (quiet : Quiet p t) : Joined s 0 t ∧ KillOk t :=
  ⟨ready.joined.same quiet.toSameLoads, ready.kill.quiet ready.resting quiet⟩

/-- An effect keeps the laws of the loads. -/
theorem Effect.loadsOk {c : Instr} {s p t : State} (ready : Ready s p) (h : Effect c p t) :
    LoadsOk t ∧ FirstCome s.seq.counter s.seq.queue t.seq.queue := by
  cases h with
  | quiet quiet _ =>
    obtain ⟨joined, kill⟩ := ready.quiet quiet
    exact joined.loadsOk kill
  | reset phase cause _ =>
    have reset : CoreAtReset (p.takeReset phase cause) := ⟨rfl, rfl, rfl⟩
    exact ⟨loadsOk_iff.mpr ⟨reset.records _, reset.seqOk _, reset.killOk⟩, fun a mem => absurd mem List.not_mem_nil⟩
  | load quiet _ change _ =>
    obtain ⟨joined, kill⟩ := ready.quiet quiet
    exact (joined.changes change.changes (List.nodup_singleton _) (ready.idle_same quiet.toSameLoads) (by omega)).loadsOk
      (kill.changes change.changes)
  | configure n new off =>
    obtain ⟨joined, kill⟩ := ready.configure off new
    exact joined.loadsOk kill

/-- The gap timer stops. -/
theorem joined_gapStopped {s p : State} (ready : Ready s p) : Joined s 0 { p with seq := { p.seq with gap := .stopped } } := by
  obtain ⟨lawful, records, ⟨distinct, sorted, entries, queued, slot, -⟩, flow⟩ := ready.progress
  exact ⟨0, Nat.le_refl 0, lawful, records, ⟨distinct, sorted, entries, queued, slot, fun _ => rfl⟩, flow.sublist (.refl _) rfl⟩

/-- What comes before a grant lets at most 48 loads join: start-up, which sheds, sets demands and queues. -/
theorem Prepares.joined {s p t : State} (ready : Ready s p) (h : Prepares p t) : Joined s 48 t := by
  cases h with
  | loads quiet distinct changes =>
    exact ((ready.quiet quiet).1.changes changes distinct (ready.idle_same quiet.toSameLoads) (by omega)).mono (by omega)
  | gap => exact (joined_gapStopped ready).mono (by omega)
  | depth counted =>
    have same := counted.toSameLoads
    exact ((ready.joined.same same).formDepth (ready.idle_same same) (by omega)).mono (by omega)
  | cutoff table =>
    have same : SameLoads p (withCutoff table p) := ⟨rfl, rfl, rfl⟩
    obtain ⟨hold, eq⟩ := cutoffReplaced_eq table p
    have shed := (ready.joined.same same).changes (cutoffShed_changes table p) (nodup_cutoffSheds table p) (ready.idle_same same)
      (by omega)
    have replaced : Joined s 16 (cutoffReplaced table p) := by
      rw [eq]
      exact shed.same ⟨rfl, rfl, rfl⟩
    exact replaced.mono (by omega)
  | @kill u asserted running adopted =>
    subst adopted
    have same : SameLoads p { p with quals := { p.quals with kill := p.quals.kill.adopt asserted } } := ⟨rfl, rfl, rfl⟩
    exact ((ready.joined.same same).handKill asserted (ready.idle_same same) (by omega)).mono (by omega)
  | startUp asInh selecting =>
    obtain ⟨v, ns, w, same, -, -, -, distinct, changes, eq⟩ := autostarted_changes asInh p.selectProfile.startupReports
    have started := ((joined_startupReports ready selecting).same same).changes changes distinct
      (fun n _ => ready.all_idle selecting n) (by omega)
    rw [eq]
    exact started.same ⟨rfl, rfl, rfl⟩

theorem KillOk.sameLoads {s t : State} (h : KillOk s) (same : SameLoads s t) (quals : t.quals = s.quals) : KillOk t :=
  h.of_loads same.loads fun kill => quals ▸ kill

theorem KillOk.formDepth {s : State} (h : KillOk s) : KillOk s.formDepth :=
  KillOk.changes (formDepth_changes s) (h.sameLoads (depthSet_sameLoads s) (depthSet_quals s))

theorem KillOk.startUp {p : State} (reset : CoreAtReset p) (asInh : PinLevel) :
    KillOk (autostarted asInh p.selectProfile.startupReports) := by
  have killed : KillOk (startupKilled p.selectProfile) := by
    unfold startupKilled
    split
    case isTrue asserted => exact killOk_handKill asserted
    case isFalse => exact reset.killOk
  have reported : KillOk p.selectProfile.startupReports := by
    rw [startupReports_eq]
    split
    exacts [KillOk.formDepth killed, killed]
  obtain ⟨v, ns, w, same, quals, -, -, -, changes, eq⟩ := autostarted_changes asInh p.selectProfile.startupReports
  have started : KillOk w := KillOk.changes changes (reported.sameLoads same quals)
  rw [eq]
  exact started

/-- Before a grant no demand is ON under KILL (R8, R26). -/
theorem Prepares.killOk {s p t : State} (ready : Ready s p) (h : Prepares p t) : KillOk t := by
  cases h with
  | loads quiet distinct changes => exact (ready.quiet quiet).2.changes changes
  | gap => exact ready.kill
  | depth counted => exact (ready.kill.of_loads counted.loads fun kill => counted.kill ▸ kill).formDepth
  | cutoff table =>
    obtain ⟨hold, eq⟩ := cutoffReplaced_eq table p
    have tabled : KillOk (withCutoff table p) := ready.kill
    have shed : KillOk (cutoffShed table p) := KillOk.changes (cutoffShed_changes table p) tabled
    rw [eq]
    exact shed
  | kill asserted running adopted =>
    subst adopted
    exact killOk_handKill rfl
  | startUp asInh selecting => exact .startUp (ready.reset selecting) asInh

/-- What a command leaves keeps the laws of the loads and the order of joining. -/
theorem Leaves.loadsOk {c : Instr} {s p t : State} (ready : Ready s p) (h : Leaves c p t) :
    LoadsOk t ∧ FirstCome s.seq.counter s.seq.queue t.seq.queue := by
  have rest : ∀ {u v : State}, SameCore u v → LoadsOk u ∧ FirstCome s.seq.counter s.seq.queue u.seq.queue →
      LoadsOk v ∧ FirstCome s.seq.counter s.seq.queue v.seq.queue := fun same => by
    simp only [LoadsOk, QueueOk, same.ws, same.loads, same.seq, same.quals]
    exact id
  cases h with
  | stands effect same => exact rest same (effect.loadsOk ready)
  | grants considers prepares same =>
    exact rest same ((prepares.joined ready).considerGrant.loadsOk (prepares.killOk ready).considerGrant)

/-- Every command keeps the laws of the loads and the order of joining. -/
theorem exec_keeps_loadsOk {c : Instr} {s t : State} (reset : ResetOk s) (ok : LoadsOk s) (h : exec c s = .next t) :
    LoadsOk t ∧ FirstCome s.seq.counter s.seq.queue t.seq.queue := by
  obtain ⟨t', eq, p, begins, leaves⟩ := exec_acts s c
  obtain rfl := Host.Outcome.next.inj (h.symm.trans eq)
  exact leaves.loadsOk (begins.ready reset ok)

/-- A step is a command, taken from the queue or of the part's own accord, or one millisecond (log 1). -/
theorem step_cases {s t : State} (h : step s = .next t) :
    (∃ c rest, exec c { s with pending := rest } = .next t) ∨ t = s.elapse 1 := by
  unfold step at h
  split at h
  · split at h
    · exact .inl ⟨_, s.pending, h⟩
    · exact .inr (Host.Outcome.next.inj h).symm
  · exact .inl ⟨_, _, h⟩

/-- Settles O53: an event at a load keeps its record lawful, the sequencer follows each move, and a load joins behind the entries of
its own priority under the next number. -/
theorem stepKeepsLoadsAndQueueLawful : Obligations.StepKeepsLoadsAndQueueLawful := by
  intro s t reset ok h
  obtain ⟨c, rest, h⟩ | rfl := step_cases h
  · exact exec_keeps_loadsOk (s := { s with pending := rest }) reset ok h
  · obtain ⟨records, seq, kill⟩ := loadsOk_iff.mp ok
    exact Joined.loadsOk ⟨0, Nat.le_refl 0, (Progress.start records seq).elapse 1⟩ (kill.elapse 1)

end Sys2Proof.Proofs
end

section
/-! PROOFS. The shed depth and the loads it sheds from command to command (O54). -/

namespace Sys2Proof.Proofs

open Sys2Proof.Machine Sys2Proof.Safety Sys2Proof.Claims

/-! ### The laws of the severity unit, part by part -/

/-- The states in which a shed load may be (R5). -/
def Stands (state : LoadState) : Prop := state ≠ .queued ∧ state ≠ .starting ∧ state ≠ .on

/-- No load shed at the present depth is QUEUED, STARTING or ON (R5). -/
def NoneShedRuns (s : State) : Prop := ∀ n : LoadIx, s.isShed n = true → Stands s.loads[n].state

/-- What the contributions to the depth are formed of (R49, R57, R58). -/
structure ContributionsOk (s : State) : Prop where
  ladders : ∀ k : LadderIx, LadderOk s.ws.ladders[k] s.sev.ladders[k]
  floor : s.sev.hostFloor ≤ 4
  shed : s.phase = .running → s.sev.shedInput = s.quals.shed.qualified

/-- The depth is formed of the contributions (R59, R60). -/
structure DepthFormed (s : State) : Prop where
  depth : s.sev.depth = s.formedDepth
  contributor : s.sev.contributor = s.contributorOf s.formedDepth

theorem severityOk_iff {s : State} : SeverityOk s ↔ ContributionsOk s ∧ DepthFormed s ∧ NoneShedRuns s := by
  constructor
  · rintro ⟨ladders, floor, depth, contributor, shed, stands⟩
    rw [greatest_eq] at depth
    rw [depth, contributorAt_eq] at contributor
    exact ⟨⟨ladders, floor, shed⟩, ⟨depth, contributor⟩, stands⟩
  · rintro ⟨⟨ladders, floor, shed⟩, ⟨depth, contributor⟩, stands⟩
    refine ⟨ladders, floor, by rw [greatest_eq]; exact depth, ?_, shed, stands⟩
    rw [depth, contributorAt_eq]
    exact contributor

/-- From s to t nothing has changed of what the depth is formed of, nor the depth. -/
structure SameDepth (s t : State) : Prop where
  ladders : t.ws.ladders = s.ws.ladders
  globals : t.ws.globals = s.ws.globals
  sev : t.sev = { s.sev with hold := t.sev.hold }

/-- The contributions look at no more. -/
theorem formedDepth_congr {s t : State} (config : t.ws.ladders = s.ws.ladders) (globals : t.ws.globals = s.ws.globals)
    (ladders : t.sev.ladders = s.sev.ladders) (input : t.sev.shedInput = s.sev.shedInput)
    (floor : t.sev.hostFloor = s.sev.hostFloor) :
    t.formedDepth = s.formedDepth ∧ t.contributorOf t.formedDepth = s.contributorOf s.formedDepth := by
  have ladder : t.ladderContribution = s.ladderContribution := by
    funext k; simp only [State.ladderContribution, config, ladders]
  have shed : t.shedContribution = s.shedContribution := by simp only [State.shedContribution, input, globals]
  have formed : t.formedDepth = s.formedDepth := by simp only [State.formedDepth, ladder, shed, floor]
  exact ⟨formed, by simp only [formed, State.contributorOf, ladder, shed]⟩

namespace SameDepth

variable {s t : State}

theorem formed (h : SameDepth s t) (formed : DepthFormed s) : DepthFormed t := by
  have same := h.sev
  obtain ⟨depth, contributor⟩ := formedDepth_congr h.ladders h.globals (by rw [same]) (by rw [same]) (by rw [same])
  refine ⟨?_, ?_⟩
  · rw [depth, same]; exact formed.depth
  · rw [contributor, same]; exact formed.contributor

theorem contributions (h : SameDepth s t) (ok : ContributionsOk s)
    (shed : t.phase = .running → s.phase = .running ∧ t.quals.shed.qualified = s.quals.shed.qualified) : ContributionsOk t where
  ladders k := by rw [h.ladders, h.sev]; exact ok.ladders k
  floor := by rw [h.sev]; exact ok.floor
  shed running := by
    obtain ⟨running, qualified⟩ := shed running
    rw [h.sev, qualified]; exact ok.shed running

end SameDepth

theorem SameCore.sameDepth {s t : State} (h : SameCore s t) : SameDepth s t :=
  ⟨by rw [h.ws], by rw [h.ws], by rw [h.sev]⟩

theorem SameFrame.sameDepth {s t : State} (h : SameFrame s t) : SameDepth s t :=
  ⟨by rw [h.ws], by rw [h.ws], by rw [h.sev]⟩

theorem Quiet.sameDepth {s t : State} (h : Quiet s t) : SameDepth s t := ⟨h.ladders, h.globals, h.sev⟩

theorem SameFrame.contributions {s t : State} (h : SameFrame s t) (ok : ContributionsOk s) : ContributionsOk t :=
  h.sameDepth.contributions ok fun running => ⟨h.phase ▸ running, by rw [h.quals]⟩

/-! ### The loads that are shed (R5, R24) -/

/-- The shed test looks at the priorities, the cutoffs and the depth (R5). -/
theorem isShed_congr {s t : State} (configs : t.ws.loads = s.ws.loads) (cutoff : t.ws.cutoff = s.ws.cutoff)
    (depth : t.sev.depth = s.sev.depth) (n : LoadIx) : t.isShed n = s.isShed n := by
  have cutoffAt : t.ws.cutoffAt s.sev.depth = s.ws.cutoffAt s.sev.depth := by unfold WorkingSet.cutoffAt; rw [cutoff]
  unfold State.isShed WorkingSet.shedAt
  rw [depth, cutoffAt, configs]

/-- The loads in one state that a load keeps, and the same shed test. -/
theorem NoneShedRuns.congr {s t : State} (h : NoneShedRuns s) (shed : ∀ n, t.isShed n = true → s.isShed n = true)
    (state : ∀ n : LoadIx, t.loads[n].state = s.loads[n].state) : NoneShedRuns t := fun n is => by
  rw [state n]; exact h n (shed n is)

/-- An event at a load that is shed neither starts nor queues it. -/
theorem NoneShedRuns.change {s t : State} {n : LoadIx} (h : NoneShedRuns s) (change : LoadChange s n t) : NoneShedRuns t := by
  intro m shed
  rw [change.frame.isShed] at shed
  have stands := h m shed
  by_cases same : m = n
  · subst same
    obtain ⟨state, -⟩ | ⟨new, state, notStarting, runs, joins, -⟩ := change.moved
    · rw [state]; exact stands
    · rw [state]
      refine ⟨fun queued => ?_, notStarting, fun on => stands.2.1 (runs on)⟩
      obtain ⟨-, notShed, -⟩ := joins queued
      exact absurd (shed.symm.trans notShed) (by decide)
  · rw [change.other same]; exact stands

theorem NoneShedRuns.changes {s t : State} {ns : List LoadIx} (changes : LoadChanges s ns t) (h : NoneShedRuns s) :
    NoneShedRuns t := by
  induction changes with
  | nil s => exact h
  | cons head _ ih => exact ih (h.change head)

/-- A load that is shed leaves QUEUED, STARTING and ON (R24). -/
theorem stands_shedLoad (n : LoadIx) (s : State) : Stands (s.shedLoad n).loads[n].state := by
  obtain ⟨-, eq⟩ | ⟨notQueued, notStarting, notOn, eq⟩ := s.shedLoad_cases n <;> rw [eq]
  · rw [State.moveLoad_state]; exact ⟨by decide, by decide, by decide⟩
  · exact ⟨notQueued, notStarting, notOn⟩

theorem stands_eachLoad_shedLoad {m : LoadIx} :
    ∀ (ns : List LoadIx) (s : State), m ∈ ns ∨ Stands s.loads[m].state → Stands (s.eachLoad ns State.shedLoad).loads[m].state
  | [], _, h => h.resolve_left List.not_mem_nil
  | n :: ns, s, h => by
    refine stands_eachLoad_shedLoad ns _ ?_
    by_cases same : m = n
    · subst same; exact .inr (stands_shedLoad m s)
    · rw [(loadChange_shedLoad (s := s) (n := n)).other same]
      exact h.imp (fun mem => (List.mem_cons.mp mem).resolve_left same) id

theorem mem_newlyShed {w w' : WorkingSet} {d d' : Nat} {n : LoadIx} :
    n ∈ newlyShed w d w' d' ↔ w'.shedAt d' n = true ∧ w.shedAt d n = false := by
  have all : n ∈ allLoads := (by decide : ∀ n : LoadIx, n ∈ allLoads) n
  simp [newlyShed, all]

/-- After the loads newly shed have left, no shed load runs. -/
theorem noneShedRuns_newlyShed {s t : State} {w : WorkingSet} {d : Nat}
    (before : ∀ n : LoadIx, w.shedAt d n = true → Stands s.loads[n].state) (loads : t.loads = s.loads) :
    NoneShedRuns (t.eachLoad (newlyShed w d t.ws t.sev.depth) State.shedLoad) := fun n shed => by
  have changes := loadChanges_eachLoad (fun _ _ => loadChange_shedLoad) (newlyShed w d t.ws t.sev.depth) t
  rw [changes.frame.isShed] at shed
  refine stands_eachLoad_shedLoad _ t ?_
  cases was : w.shedAt d n with
  | false => exact .inl (mem_newlyShed.mpr ⟨shed, was⟩)
  | true => rw [loads]; exact .inr (before n was)

/-- A table that passes R64 sheds no load at a lower depth that it does not shed at a higher one. -/
theorem shedAt_mono {w : WorkingSet} (ok : cutoffOk w.cutoff = true) {d d' : Nat} (le : d ≤ d') (top : d' ≤ 4) {n : LoadIx}
    (shed : w.shedAt d n = true) : w.shedAt d' n = true := by
  simp only [cutoffOk, Bool.and_eq_true, decide_eq_true_eq] at ok
  obtain ⟨⟨⟨-, first⟩, second⟩, third⟩ := ok
  have falls : 1 ≤ d → w.cutoffAt d' ≤ w.cutoffAt d := fun low => by
    have entry : ∀ i (lt : i < 4), w.cutoffAt (i + 1) = w.cutoff[i] := fun i lt => by
      simp [WorkingSet.cutoffAt, lt]
    obtain ⟨i, rfl⟩ : ∃ i, d = i + 1 := ⟨d - 1, by omega⟩
    obtain ⟨j, rfl⟩ : ∃ j, d' = j + 1 := ⟨d' - 1, by omega⟩
    rw [entry i (by omega), entry j (by omega)]
    obtain rfl | rfl | rfl | rfl : j = 0 ∨ j = 1 ∨ j = 2 ∨ j = 3 := by omega
    all_goals obtain rfl | rfl | rfl | rfl : i = 0 ∨ i = 1 ∨ i = 2 ∨ i = 3 := by omega
    all_goals omega
  simp only [WorkingSet.shedAt, Bool.and_eq_true, decide_eq_true_eq] at shed ⊢
  obtain ⟨low, shed⟩ := shed
  have lower := falls low
  omega

/-! ### The depth formed anew (R59 to R62) -/

/-- Once the depth is formed, the severity unit is lawful, where no load shed at the depth before runs. -/
theorem severity_formDepth {s : State} (contributions : ContributionsOk s) (none : NoneShedRuns s)
    (falls : ∀ d ≤ s.sev.depth, ∀ n, s.ws.shedAt d n = true → s.ws.shedAt s.sev.depth n = true) :
    ContributionsOk s.formDepth ∧ DepthFormed s.formDepth ∧ NoneShedRuns s.formDepth := by
  have frame := (formDepth_changes s).frame
  have sev := depthSet_sev s
  have ws := depthSet_ws s
  have set : ContributionsOk (depthSet s) :=
    ⟨fun k => by rw [ws, sev]; exact contributions.ladders k, by rw [sev]; exact contributions.floor,
      fun running => by rw [sev, depthSet_quals]; exact contributions.shed (depthSet_phase s ▸ running)⟩
  have formed : DepthFormed (depthSet s) := by
    obtain ⟨depth, contributor⟩ := formedDepth_congr (s := s) (t := depthSet s) (by rw [ws]) (by rw [ws]) (by rw [sev])
      (by rw [sev]) (by rw [sev])
    exact ⟨by rw [depth, sev], by rw [contributor, sev]⟩
  refine ⟨frame.contributions set, frame.sameDepth.formed formed, ?_⟩
  rw [formDepth_eq]
  have depth : (depthSet s).sev.depth = s.formedDepth := by rw [sev]
  unfold depthSheds
  split
  · rw [← depth]
    have gone := noneShedRuns_newlyShed (s := s) (t := depthSet s) (w := s.ws) (d := s.sev.depth) none (depthSet_loads s)
    rwa [ws] at gone
  case isFalse notRise =>
    refine none.congr (fun n shed => ?_) (fun n => by rw [State.eachLoad_nil, depthSet_loads])
    rw [State.eachLoad_nil, State.isShed, ws, depth] at shed
    exact falls _ (by omega) n shed

/-- A lawful depth is at most 4 under a lawful configuration (R57, R58, R69). -/
theorem formedDepth_le {s : State} (ok : WorkingSetOk s.ws) (contributions : ContributionsOk s) : s.formedDepth ≤ 4 := by
  obtain ⟨ok, -⟩ := ok
  simp only [WorkingSet.ok, Bool.and_eq_true] at ok
  obtain ⟨⟨⟨⟨⟨⟨-, ladders⟩, -⟩, -⟩, -⟩, -⟩, globals⟩ := ok
  have ladder : ∀ k : LadderIx, s.ladderContribution k ≤ 4 := fun k => by
    have config : s.ws.ladders[k].ok = true := List.all_eq_true.mp ladders _ (Vector.mem_toList_iff.mpr (Vector.getElem_mem k.isLt))
    obtain ⟨-, top, -⟩ := ladderConfig_ok config
    obtain ⟨-, level, -⟩ := contributions.ladders k
    unfold State.ladderContribution
    split <;> omega
  have shed : s.shedContribution ≤ 4 := by
    simp only [Globals.ok, Bool.and_eq_true, decide_eq_true_eq] at globals
    unfold State.shedContribution
    split <;> omega
  have floor := contributions.floor
  have first := ladder 0
  have second := ladder 1
  have third := ladder 2
  have fourth := ladder 3
  unfold State.formedDepth
  omega

/-! ### What each command leaves -/

/-- The severity unit is lawful. -/
def Severe (s : State) : Prop := ContributionsOk s ∧ DepthFormed s ∧ NoneShedRuns s

namespace Severe

variable {s t : State}

/-- Changes at loads. -/
theorem changes {ns : List LoadIx} (changes : LoadChanges s ns t) (h : Severe s) : Severe t := by
  obtain ⟨contributions, formed, none⟩ := h
  exact ⟨changes.frame.contributions contributions, changes.frame.sameDepth.formed formed, none.changes changes⟩

theorem sameCore (h : Severe s) (same : SameCore s t) : Severe t := by
  obtain ⟨contributions, formed, none⟩ := h
  exact ⟨same.toSameFrame.contributions contributions, same.sameDepth.formed formed,
    none.congr (fun n => by rw [same.toSameFrame.isShed]; exact id) fun n => by rw [same.loads]⟩

theorem quiet (h : Severe s) (quiet : Quiet s t) : Severe t := by
  obtain ⟨contributions, formed, none⟩ := h
  refine ⟨quiet.sameDepth.contributions contributions fun running => ⟨quiet.phase running, quiet.shed running⟩,
    quiet.sameDepth.formed formed, none.congr (fun n shed => ?_) fun n => by rw [quiet.loads]⟩
  rwa [isShed_congr quiet.configs quiet.cutoff (by rw [quiet.sev])] at shed

/-- The head of a lawful queue is QUEUED, and so not shed (R5, R32). -/
theorem considerGrant (h : Severe s) (seq : SeqOk s.ws.loads s.loads s.seq) : Severe s.considerGrant := by
  obtain ⟨-, eq⟩ | ⟨e, rest, queue, -, eq⟩ := s.considerGrant_cases <;> rw [eq]
  · exact h
  obtain ⟨contributions, formed, none⟩ := h
  have frame : SameFrame s (s.grantHead e rest) := ⟨rfl, rfl, rfl, rfl, rfl⟩
  refine ⟨frame.contributions contributions, frame.sameDepth.formed formed, fun n shed => ?_⟩
  rw [frame.isShed] at shed
  have stands := none n shed
  by_cases same : n = e.load
  · rw [same, (seq.entries e (queue ▸ .head rest)).1] at stands
    exact absurd rfl stands.1
  · simp only [State.grantHead, State.post_loads]
    rw [set_other same]; exact stands

theorem elapse (h : Severe s) (d : Nat) : Severe (s.elapse d) := by
  obtain ⟨contributions, formed, none⟩ := h
  have same : SameDepth s (s.elapse d) := by
    unfold State.elapse
    split <;> exact ⟨rfl, rfl, rfl⟩
  refine ⟨same.contributions contributions fun running => ⟨by simpa using running, elapse_shed_qualified d s⟩, same.formed formed,
    none.congr (fun n shed => ?_) (elapse_load_state d s)⟩
  rwa [isShed_congr (s := s) (t := s.elapse d) (by rw [State.elapse_ws]) (by rw [State.elapse_ws]) (by rw [same.sev])] at shed

/-- At the reset values, under any working set (R47). -/
theorem reset (sev : s.sev = Severity.reset) (stops : s.phase ≠ .running) :
    Severe s := by
  have ladder : ∀ k : LadderIx, s.sev.ladders[k] = Ladder.reset := fun k => by
    rw [sev]; exact Vector.getElem_replicate _
  have depth : s.sev.depth = 0 := by rw [sev]; rfl
  have level : ∀ k, s.ladderContribution k = 0 := fun k => by
    unfold State.ladderContribution; rw [ladder k]; split <;> rfl
  have input : s.shedContribution = 0 := by unfold State.shedContribution; rw [sev]; rfl
  have floor : s.sev.hostFloor = 0 := by rw [sev]; rfl
  have formed : s.formedDepth = 0 := by simp only [State.formedDepth, level, input, floor, max_self]
  refine ⟨⟨fun k => by rw [ladder k]; exact ladderOk_reset, by omega, fun running => absurd running stops⟩,
    ⟨depth.trans formed.symm, by rw [formed, sev]; rfl⟩, fun n shed => ?_⟩
  rw [State.isShed, depth] at shed
  exact absurd shed (by simp [WorkingSet.shedAt])

/-- A load in OFF takes a new configuration (R29). -/
theorem configure (h : Severe s) {n : LoadIx} (off : s.loads[n].state = .off) (new : LoadConfig) :
    Severe (s.configureLoad n new) := by
  obtain ⟨contributions, formed, none⟩ := h
  have same : SameDepth s (s.configureLoad n new) := ⟨rfl, rfl, rfl⟩
  refine ⟨same.contributions contributions fun running => ⟨running, rfl⟩, same.formed formed, fun m shed => ?_⟩
  change Stands (s.loads.set n _)[m].state
  by_cases is : m = n
  · rw [is, set_self]; dsimp only; rw [off]; exact ⟨by decide, by decide, by decide⟩
  · rw [set_other is]
    have config : (s.configureLoad n new).ws.loads[m] = s.ws.loads[m] := vector_set_other is s.ws.loads new
    refine none m ?_
    rw [State.isShed, WorkingSet.shedAt, config] at shed
    exact shed

end Severe

/-- A lawful state on which a command acts. -/
theorem Begins.severe {c : Instr} {s p : State} (h : Begins c s p) (loads : LoadsOk s) (ok : Severe s) :
    Severe p := by
  obtain ⟨records, seq, -⟩ := loadsOk_iff.mp loads
  refine (h.keeps (P := fun u => Progress s 0 u ∧ Severe u) (fun u ⟨progress, ok⟩ => ?_) (fun d u ⟨progress, ok⟩ => ?_)
    (fun u v same ⟨progress, ok⟩ => ?_) ⟨.start records seq, ok⟩).2
  · exact ⟨progress.considerGrant, ok.considerGrant progress.seq⟩
  · exact ⟨progress.elapse d, ok.elapse d⟩
  · exact ⟨progress.sameLoads same.sameLoads, ok.sameCore same⟩

theorem Begins.ws {c : Instr} {s p : State} (h : Begins c s p) : p.ws = s.ws :=
  h.keeps (P := fun u => u.ws = s.ws) (fun _ ws => by simpa using ws) (fun _ _ ws => by simpa using ws)
    (fun _ _ same ws => same.ws.trans ws) rfl

theorem Effect.severe {c : Instr} {p t : State} (ok : Severe p) (h : Effect c p t) : Severe t := by
  cases h with
  | quiet quiet _ => exact ok.quiet quiet
  | reset phase cause stops => exact .reset rfl stops
  | load quiet _ change _ => exact (ok.quiet quiet).changes change.changes
  | configure n new off => exact ok.configure off new

/-- The depth formed of contributions that have changed (R51, R57, R58, R70). -/
theorem DepthOpen.severe {p t : State} (config : WorkingSetOk p.ws) (ok : Severe p) (h : DepthOpen p t) : Severe t.formDepth := by
  obtain ⟨contributions, formed, none⟩ := ok
  have top : p.sev.depth ≤ 4 := formed.depth ▸ formedDepth_le config contributions
  have parts := config.1
  simp only [WorkingSet.ok, Bool.and_eq_true] at parts
  obtain ⟨⟨⟨⟨⟨⟨-, ladders⟩, table⟩, -⟩, -⟩, -⟩, -⟩ := parts
  have ladderOk : ∀ k : LadderIx, p.ws.ladders[k].ok = true := fun k =>
    List.all_eq_true.mp ladders _ (Vector.mem_toList_iff.mpr (Vector.getElem_mem k.isLt))
  refine severity_formDepth ⟨h.ladders ladderOk contributions.ladders, h.floor contributions.floor, h.shed contributions.shed⟩
    (none.congr (fun n shed => ?_) fun n => by rw [h.loads]) fun d le n shed => ?_
  · rwa [isShed_congr h.configs h.cutoff h.depth] at shed
  · rw [h.depth] at le ⊢
    exact shedAt_mono (by rw [h.cutoff]; exact table) le top shed

theorem cutoffReplaced_severe {p : State} (table : Vector Nat 4) (ok : Severe p) : Severe (cutoffReplaced table p) := by
  obtain ⟨contributions, formed, none⟩ := ok
  have changes := cutoffShed_changes table p
  have same : SameDepth p (withCutoff table p) := ⟨rfl, rfl, rfl⟩
  have shed : Severe (cutoffShed table p) := by
    refine ⟨changes.frame.contributions (same.contributions contributions fun running => ⟨running, rfl⟩),
      changes.frame.sameDepth.formed (same.formed formed), ?_⟩
    exact noneShedRuns_newlyShed (s := p) (t := withCutoff table p) none rfl
  obtain ⟨hold, eq⟩ := cutoffReplaced_eq table p
  rw [eq]
  obtain ⟨contributions, formed, none⟩ := shed
  have held : SameDepth (cutoffShed table p)
      { cutoffShed table p with sev := { (cutoffShed table p).sev with hold := hold } } := ⟨rfl, rfl, rfl⟩
  exact ⟨held.contributions contributions fun running => ⟨running, rfl⟩, held.formed formed, none⟩

/-- After step 4 of start-up the depth is formed of the shed input (R57, R194). -/
theorem startupKilled_frame (s : State) :
    (startupKilled s).ws = s.ws ∧ (startupKilled s).sev = s.sev ∧ (startupKilled s).quals = s.quals ∧
      (startupKilled s).phase = s.phase := by
  unfold startupKilled
  split
  · refine ⟨?_, ?_, ?_, ?_⟩ <;> simp
  · exact ⟨rfl, rfl, rfl, rfl⟩

theorem startupReports_severe {p : State} (reset : CoreAtReset p) (selecting : p.phase = .selecting) :
    Severe p.selectProfile.startupReports ∧
      p.selectProfile.startupReports.sev.shedInput = p.selectProfile.startupReports.quals.shed.qualified := by
  have stopped : p.selectProfile.phase ≠ .running := by
    change p.phase ≠ .running
    rw [selecting]; decide
  have sev : p.selectProfile.sev = Severity.reset := reset.sev
  have loaded : Severe p.selectProfile := .reset sev stopped
  obtain ⟨-, killedSev, killedQuals, killedPhase⟩ := startupKilled_frame p.selectProfile
  rw [startupReports_eq]
  split
  case isTrue asserted =>
    have handed : (startupShedInput p.selectProfile).sev.depth = 0 := by
      change (startupKilled p.selectProfile).sev.depth = 0
      rw [killedSev, sev]; rfl
    have never : ∀ n, (startupShedInput p.selectProfile).ws.shedAt 0 n = true → False := fun n shed => by
      simp [WorkingSet.shedAt] at shed
    have ladders : ∀ k : LadderIx, (startupShedInput p.selectProfile).sev.ladders[k] = Ladder.reset := fun k => by
      change (startupKilled p.selectProfile).sev.ladders[k] = Ladder.reset
      rw [killedSev, sev]; exact Vector.getElem_replicate _
    have floor : (startupShedInput p.selectProfile).sev.hostFloor = 0 := by
      change (startupKilled p.selectProfile).sev.hostFloor = 0
      rw [killedSev, sev]; rfl
    refine ⟨severity_formDepth ⟨fun k => by rw [ladders k]; exact ladderOk_reset, by omega, fun running => ?_⟩
      (fun n shed => ?_) (fun d le n shed => ?_), ?_⟩
    · exact absurd (killedPhase.symm.trans running) stopped
    · rw [State.isShed, handed] at shed; exact (never n shed).elim
    · obtain rfl : d = 0 := by omega
      exact (never n shed).elim
    · obtain ⟨-, formed, -, quals, -⟩ := (formDepth_changes (startupShedInput p.selectProfile)).frame
      rw [formed, quals, depthSet_sev, depthSet_quals]
      change true = (startupKilled p.selectProfile).quals.shed.qualified
      rw [killedQuals, asserted]
  case isFalse deasserted =>
    refine ⟨?_, ?_⟩
    · have reported := (loaded.sameCore (sameCore_post [p.selectProfile.resetReport] _)).sameCore
        (sameCore_post [p.selectProfile.profileLoadedReport] _)
      unfold startupKilled
      split
      exacts [(reported.sameCore (sameCore_post _ _)).changes (handKill_changes true _), reported]
    · rw [killedSev, killedQuals, sev]
      exact (Bool.eq_false_iff.mpr deasserted).symm

theorem startUp_severe {p : State} (reset : CoreAtReset p) (selecting : p.phase = .selecting) (asInh : PinLevel) :
    Severe (autostarted asInh p.selectProfile.startupReports) := by
  obtain ⟨⟨contributions, formed, none⟩, handed⟩ := startupReports_severe reset selecting
  obtain ⟨v, ns, w, same, quals, ws, sev, -, changes, eq⟩ := autostarted_changes asInh p.selectProfile.startupReports
  have started : DepthFormed w ∧ NoneShedRuns w := by
    have depth : SameDepth p.selectProfile.startupReports v := ⟨by rw [ws], by rw [ws], by rw [sev]⟩
    exact ⟨changes.frame.sameDepth.formed (depth.formed formed), NoneShedRuns.changes changes
      (none.congr (fun n => by rw [State.isShed, State.isShed, ws, sev]; exact id) fun n => by rw [same.loads])⟩
  obtain ⟨⟨depth, contributor⟩, noneRuns⟩ := started
  have wWs : w.ws = p.selectProfile.startupReports.ws := changes.frame.ws.trans ws
  have wSev : w.sev = p.selectProfile.startupReports.sev := changes.frame.sev.trans sev
  rw [eq]
  refine ⟨⟨fun k => ?_, ?_, fun _ => ?_⟩, ⟨depth, contributor⟩, noneRuns⟩
  · change LadderOk w.ws.ladders[k] w.sev.ladders[k]
    rw [wWs, wSev]; exact contributions.ladders k
  · change w.sev.hostFloor ≤ 4
    rw [wSev]; exact contributions.floor
  · change w.sev.shedInput = w.quals.shed.qualified
    rw [wSev, changes.frame.quals, quals]; exact handed

theorem Prepares.severe {p t : State} (resting : Resting p) (config : WorkingSetOk p.ws) (ok : Severe p) (h : Prepares p t) :
    Severe t := by
  cases h with
  | loads quiet distinct changes => exact (ok.quiet quiet).changes changes
  | gap =>
    obtain ⟨contributions, formed, none⟩ := ok
    exact ⟨⟨contributions.ladders, contributions.floor, contributions.shed⟩, ⟨formed.depth, formed.contributor⟩, none⟩
  | depth counted => exact counted.severe config ok
  | cutoff table => exact cutoffReplaced_severe table ok
  | kill asserted running adopted =>
    subst adopted
    obtain ⟨contributions, formed, none⟩ := ok
    have same : SameDepth p { p with quals := { p.quals with kill := p.quals.kill.adopt asserted } } := ⟨rfl, rfl, rfl⟩
    have adopted : Severe { p with quals := { p.quals with kill := p.quals.kill.adopt asserted } } :=
      ⟨same.contributions contributions fun running => ⟨running, rfl⟩, same.formed formed, none⟩
    exact (adopted.sameCore (sameCore_post _ _)).changes (handKill_changes asserted _)
  | startUp asInh selecting => exact startUp_severe (resting (by rw [selecting]; decide)) selecting asInh

theorem Leaves.severe {c : Instr} {s p t : State} (ready : Ready s p) (config : WorkingSetOk p.ws) (ok : Severe p)
    (h : Leaves c p t) : Severe t := by
  cases h with
  | stands effect same => exact (effect.severe ok).sameCore same
  | grants considers prepares same =>
    obtain ⟨j, -, progress⟩ := prepares.joined ready
    exact ((prepares.severe ready.resting config ok).considerGrant progress.seq).sameCore same

theorem exec_keeps_severe {c : Instr} {s t : State} (reset : ResetOk s) (config : WorkingSetOk s.ws) (loads : LoadsOk s)
    (ok : Severe s) (h : exec c s = .next t) : Severe t := by
  obtain ⟨t', eq, p, begins, leaves⟩ := exec_acts s c
  obtain rfl := Host.Outcome.next.inj (h.symm.trans eq)
  exact leaves.severe (begins.ready reset loads) (by rw [begins.ws]; exact config) (begins.severe loads ok)

/-- Settles O54: the depth is formed wherever a contribution changes, a rise sheds the loads newly shed, and no other event at a
shed load queues or starts it. -/
theorem stepKeepsDepthAndShedLoadsLawful : Obligations.StepKeepsDepthAndShedLoadsLawful := by
  intro s t reset ⟨config, _⟩ loads severity h
  refine severityOk_iff.mpr ?_
  obtain ⟨c, rest, h⟩ | rfl := step_cases h
  · exact exec_keeps_severe (s := { s with pending := rest }) reset config loads (severityOk_iff.mp severity) h
  · exact Severe.elapse (severityOk_iff.mp severity) 1

end Sys2Proof.Proofs
end

section
/-! PROOFS. The grant: when one is due, which commands make it, and that nothing else starts a load (O43, O60). -/

namespace Sys2Proof.Proofs

open Sys2Proof.Machine Sys2Proof.Safety Sys2Proof.Claims

/-! ### What brings a due grant (R36, R37) -/

/-- The five conditions look at the sequencer, the priming flag, the depth and the start ceiling. -/
theorem grantDue_congr {s t : State} (seq : t.seq = s.seq) (primed : t.scan.primed = s.scan.primed)
    (depth : t.sev.depth = s.sev.depth) (globals : t.ws.globals = s.ws.globals) : GrantDue t ↔ GrantDue s := by
  rw [GrantDue, GrantDue, seq, primed, depth, globals]

theorem SameCore.grantDue {s t : State} (h : SameCore s t) : GrantDue t ↔ GrantDue s :=
  grantDue_congr h.seq (by rw [h.scan]) (by rw [h.sev]) (by rw [h.ws])

theorem not_grantDue_considerGrant (s : State) : ¬ GrantDue s.considerGrant :=
  grantDue_eq_false.mp s.considerGrant_grantDue

/-- Time brings no grant: the gap ends at its expiry (R41). -/
theorem grantDue_elapse {d : Nat} {s : State} : GrantDue (s.elapse d) ↔ GrantDue s := by
  rw [← grantDue_iff, ← grantDue_iff, State.grantDue, State.grantDue]
  unfold State.elapse
  split
  · simp
  · rfl

theorem Begins.scan_primed {c : Instr} {s p : State} (h : Begins c s p) : p.scan.primed = s.scan.primed :=
  h.keeps (P := fun u => u.scan.primed = s.scan.primed) (fun u primed => by simpa using primed)
    (fun d u primed => by rw [← primed]; unfold State.elapse; split <;> rfl)
    (fun _ _ same primed => by rw [same.scan, primed]) rfl

/-- The state on which a command acts has a due grant only where its own has one and the command comes after none. -/
theorem Begins.grantDue {c : Instr} {s p : State} (h : Begins c s p) (due : GrantDue p) :
    GrantDue s ∧ followsGrant c = false := by
  obtain ⟨d, same⟩ := h
  have due := grantDue_elapse.mp (same.grantDue.mp due)
  cases follows : followsGrant c with
  | false => rw [follows] at due; exact ⟨due, rfl⟩
  | true =>
    rw [follows, if_pos rfl] at due
    exact absurd due (grantDue_eq_false.mp s.takeGrant_grantDue)

/-- An effect without a grant brings a due one only by the priming flag. -/
theorem Effect.grantDue {c : Instr} {p t : State} (h : Effect c p t) (due : GrantDue t) :
    GrantDue p ∨ ((∃ raw, c = .readingArrival raw) ∧ p.scan.primed = false) := by
  have quiet : ∀ {u : State}, Quiet p u → u.scan.primed = p.scan.primed → GrantDue u → GrantDue p := fun quiet primed =>
    (grantDue_congr quiet.seq primed (by rw [quiet.sev]) quiet.globals).mp
  cases h with
  | quiet same primed =>
    obtain stays | sets := primed
    exacts [.inl (quiet same stays due), .inr sets]
  | reset phase cause _ =>
    obtain ⟨-, -, -, -, queue⟩ := due
    exact absurd rfl queue
  | load same primed change seq =>
    have frame := change.frame
    exact .inl (quiet same primed
      ((grantDue_congr seq (by rw [frame.scan]) (by rw [frame.sev]) (by rw [frame.ws])).mp due))
  | configure n new _ => exact .inl due

/-- After a command a grant is due only where a reading has set the priming flag, or where one was due before a command that comes
after none. -/
theorem exec_grantDue {c : Instr} {s t : State} (h : exec c s = .next t) (due : GrantDue t) :
    (∃ raw, c = .readingArrival raw ∧ s.scan.primed = false) ∨ (GrantDue s ∧ followsGrant c = false) := by
  obtain ⟨t', eq, p, begins, leaves⟩ := exec_acts s c
  obtain rfl := Host.Outcome.next.inj (h.symm.trans eq)
  cases leaves with
  | stands effect same =>
    obtain before | ⟨⟨raw, reading⟩, unprimed⟩ := effect.grantDue (same.grantDue.mp due)
    · exact .inr (begins.grantDue before)
    · exact .inl ⟨raw, reading, begins.scan_primed ▸ unprimed⟩
  | grants considers prepares same => exact absurd (same.grantDue.mp due) (not_grantDue_considerGrant _)

/-- A due grant goes to the head of the queue. -/
theorem considerGrant_of_due {s : State} {e : QueueEntry} {rest : List QueueEntry} (queue : s.seq.queue = e :: rest)
    (due : GrantDue s) : s.considerGrant = granted e rest s := by
  obtain ⟨free, -⟩ | ⟨e', rest', queue', -, eq⟩ := considerGrant_cases_granted s
  · exact absurd due (grantDue_eq_false.mp free)
  · obtain ⟨rfl, rfl⟩ := List.cons.inj (queue.symm.trans queue')
    exact eq

theorem takeGrant_of_due {s : State} (due : GrantDue s) : s.takeGrant = s.considerGrant.kick :=
  if_pos (grantDue_iff.mpr due)

/-- What comes after a grant finds it made (2-7). -/
theorem exec_after_grant {c : Instr} (follows : followsGrant c = true) (s : State) : exec c s = exec c s.takeGrant := by
  have made : s.takeGrant.takeGrant = s.takeGrant := State.takeGrant_of_not_due s.takeGrant_grantDue
  cases c with
  | grant | ack | resend | snapshot | demand | clear | setLoad | readLoad | forceLevel | setLadder | setCutoff | readSeverity
  | setScan | setChannel | readChannels | setWatch | ackWatch | readWatch | setGlobals | readSystem | readLink | save | reset =>
    exact congrArg Host.Outcome.next (State.takeRequest_after_grant _ _ _ s)
  | byteArrival | lineFrees | powerOnReset | pinReset | resetEnd | profileSelection | ladderEvaluation | watchEvaluation
  | loadReading | startGrant | pgPinChange | killPinChange | shedPinChange | powerLoss => exact absurd follows Bool.false_ne_true
  | hello => simp only [exec, execHello, made]
  | badKindFrame => simp only [exec, execBadKindFrame, made]
  | readingArrival => simp only [exec, execReadingArrival, made]
  | interbyteTimeout => simp only [exec, execInterbyteTimeout, made]
  | pauseExpiry => simp only [exec, execPauseExpiry, made]
  | settleExpiry => simp only [exec, execSettleExpiry, made]
  | cleanRunExpiry => simp only [exec, execCleanRunExpiry, made]
  | backoffExpiry => simp only [exec, execBackoffExpiry, made]
  | gapExpiry => simp only [exec, execGapExpiry, made]
  | restoreHoldExpiry => simp only [exec, execRestoreHoldExpiry, made]
  | silenceExpiry => simp only [exec, execSilenceExpiry, made]
  | saveEnd => simp only [exec, execSaveEnd, made]
  | pgQualified => simp only [exec, execPgQualified, made]
  | killQualified => simp only [exec, execKillQualified, made]
  | shedQualified => simp only [exec, execShedQualified, made]

/-- Settles O43: the model's test of a due grant is the five conditions, a grant holds the start slot, and of the effects without a
grant only a reading touches one of the five, the priming flag. -/
theorem startGrantNeedsAllFiveConditions : Obligations.StartGrantNeedsAllFiveConditions := by
  refine ⟨fun s => ⟨fun e rest queue due => ⟨_, rfl, ?_⟩, fun fails => ?_⟩, fun c s p follows h => ?_, fun c s t => exec_grantDue⟩
  · rw [takeGrant_of_due due, considerGrant_of_due queue due]
    exact lineTaken_kick _
  · refine congrArg _ (takeGrant_of_not_GrantDue ?_)
    rintro ⟨slot, gap, primed, depth, queue⟩
    obtain h | h | h | h | h := fails
    · exact h slot
    · exact h gap
    · exact absurd (primed.symm.trans h) (by decide)
    · exact absurd depth (Nat.not_le.mpr h)
    · exact queue h
  · obtain rfl := Host.Outcome.next.inj h
    exact exec_after_grant follows s

/-! ### What starts a load (R4, R10) -/

theorem en_congr {s t : State} {n : LoadIx} (loads : t.loads = s.loads) : t.en n = s.en n := by
  unfold State.en; rw [loads]

/-- EN is active in STARTING and ON (R4). -/
theorem en_iff {s : State} {n : LoadIx} : s.en n = true ↔ s.loads[n].state = .starting ∨ s.loads[n].state = .on := by
  unfold State.en
  cases s.loads[n].state <;> decide

section

variable {p t : State} {n : LoadIx} (off : p.en n = false)
include off

theorem en_sameLoads (loads : t.loads = p.loads) : t.en n = false := (en_congr loads).trans off

theorem en_formDepth : p.formDepth.en n = false :=
  en_changes (formDepth_changes p) (en_sameLoads off (depthSet_loads p))

/-- Start-up sheds, sets demands and queues, but starts no load before its grant. -/
theorem en_startUp (asInh : PinLevel) : (autostarted asInh p.selectProfile.startupReports).en n = false := by
  have killed : (startupKilled p.selectProfile).en n = false := by
    unfold startupKilled
    split
    exacts [en_changes (handKill_changes true _) off, off]
  have reported : p.selectProfile.startupReports.en n = false := by
    rw [startupReports_eq]
    split
    exacts [en_formDepth killed, killed]
  obtain ⟨v, ns, w, same, -, -, -, -, changes, eq⟩ := autostarted_changes asInh p.selectProfile.startupReports
  have started : w.en n = false := en_changes changes (en_sameLoads reported same.loads)
  rw [eq]
  exact started

theorem Prepares.en (h : Prepares p t) : t.en n = false := by
  cases h with
  | loads quiet distinct changes => exact en_changes changes (en_sameLoads off quiet.loads)
  | gap => exact off
  | depth counted => exact en_formDepth (en_sameLoads off counted.loads)
  | cutoff table =>
    have shed : (cutoffShed table p).en n = false := en_changes (cutoffShed_changes table p) off
    obtain ⟨hold, eq⟩ := cutoffReplaced_eq table p
    rw [eq]
    exact shed
  | kill asserted running adopted =>
    subst adopted
    exact en_changes (handKill_changes asserted _) off
  | startUp asInh selecting => exact en_startUp off asInh

theorem Effect.en {c : Instr} (h : Effect c p t) : t.en n = false := by
  cases h with
  | quiet quiet _ => exact en_sameLoads off quiet.loads
  | reset phase cause _ =>
    have reset : CoreAtReset (p.takeReset phase cause) := ⟨rfl, rfl, rfl⟩
    unfold State.en
    rw [reset.load n]; rfl
  | load quiet _ change _ => exact en_changes change.changes (en_sameLoads off quiet.loads)
  | configure m new _ =>
    refine Eq.trans ?_ off
    change (p.loads.set m _)[n].state.enabled = p.loads[n].state.enabled
    by_cases same : n = m
    · rw [same, set_self]
    · rw [set_other same]

end

/-- Where no grant was due before it, a command acts on a state whose loads are in the states they were in. -/
theorem Begins.en {c : Instr} {s p : State} (h : Begins c s p) (free : followsGrant c = true → ¬ GrantDue s) (n : LoadIx) :
    p.en n = s.en n := by
  obtain ⟨d, same⟩ := h
  have stands : (if followsGrant c = true then s.takeGrant else s) = s := by
    split
    case isTrue follows => exact takeGrant_of_not_GrantDue (free follows)
    case isFalse => rfl
  rw [en_congr same.loads, stands]
  unfold State.en
  rw [elapse_load_state]

/-- A consideration of a grant makes EN active at the head of the queue alone, where the grant is due. -/
theorem en_considerGrant {u : State} {n : LoadIx} (off : u.en n = false) (on : u.considerGrant.en n = true) :
    ∃ e rest, GrantDue u ∧ u.seq.queue = e :: rest ∧ e.load = n ∧ u.considerGrant = granted e rest u := by
  obtain ⟨-, eq⟩ | ⟨e, rest, queue, due, eq⟩ := considerGrant_cases_granted u
  · rw [eq, off] at on; cases on
  · refine ⟨e, rest, due, queue, ?_, eq⟩
    by_contra ne
    have stays : u.considerGrant.en n = u.en n := by
      unfold State.en
      rw [eq]
      exact congrArg (fun r : LoadRec => r.state.enabled) (set_other (fun same => ne same.symm) u.loads _)
    rw [stays, off] at on
    cases on

/-- The head of the queue to which a command makes a grant is QUEUED and first come; it stood in the queue when the command began,
or its load could join then, and has joined since (R32, R33). -/
theorem Joined.head {s u : State} {k : Nat} (h : Joined s k u) (small : k < 65536) {e : QueueEntry} {rest : List QueueEntry}
    (queue : u.seq.queue = e :: rest) :
    (u.loads[e.load].state = .queued ∧ u.loads[e.load].entry = some e.number ∧ e.priority = u.ws.loads[e.load].priority) ∧
      (∀ x ∈ rest, e.priority ≤ x.priority) ∧ FirstCome s.seq.counter s.seq.queue u.seq.queue ∧
      ((s.loads[e.load].state = .queued ∧ e ∈ s.seq.queue) ∨
        (Idle s e.load ∧ (e.number - s.seq.counter).toNat < (u.seq.counter - s.seq.counter).toNat)) := by
  obtain ⟨j, le, lawful, -, seq, flow⟩ := h
  have head : e ∈ u.seq.queue := queue ▸ .head rest
  have least := seq.priorities
  rw [queue] at least
  refine ⟨seq.entries e head, (List.pairwise_cons.mp least).1, flow.firstCome lawful, ?_⟩
  rw [flow.offset (by omega)]
  exact (flow.source e head).imp (fun mem => ⟨(lawful.entries e mem).1, mem⟩) id

/-- Settles O60: no event at a load but a grant enters STARTING, and ON is entered from STARTING. -/
theorem enableBecomesActiveOnlyAtAGrant : Obligations.EnableBecomesActiveOnlyAtAGrant := by
  refine ⟨fun s n => en_iff, fun s => by simp [State.attnAsserted], fun c s t n free h off on => ?_⟩
  obtain ⟨t', eq, p, begins, leaves⟩ := exec_acts s c
  obtain rfl := Host.Outcome.next.inj (h.symm.trans eq)
  have offBefore : p.en n = false := (begins.en free n).trans off
  cases leaves with
  | stands effect same =>
    rw [en_congr same.loads, effect.en offBefore] at on
    cases on
  | @grants u _ considers prepares same =>
    rw [en_congr same.loads] at on
    obtain ⟨e, rest, due, queue, rfl, eq⟩ := en_considerGrant (prepares.en offBefore) on
    rw [eq] at same
    refine ⟨considers, u, e, rest, due, queue, rfl, same.loads, same.seq, same.ws, same.scan, same.sev, fun reset ok => ?_⟩
    obtain ⟨⟨queued, entry, priority⟩, least, firstCome, source⟩ :=
      (prepares.joined (begins.ready reset ok)).head (by omega) queue
    refine ⟨queued, entry, by rw [same.ws]; exact priority, least, firstCome, ?_⟩
    rw [same.seq]
    exact source

end Sys2Proof.Proofs
end

section
/-! PROOFS. Pins, the reset state and resets (O47, O49, O9). -/

namespace Sys2Proof.Proofs

open Sys2Proof.Machine Sys2Proof.Safety Sys2Proof.Claims

/-! ### Pins (R14, R190, R196) -/

/-- Time runs from the end of a reset on (R190, R191). -/
theorem timeRuns_eq (p : Phase) : p.timeRuns = decide (p = .selecting ∨ p = .running) := by
  cases p <;> rfl

/-- The claims' change of a pin is the model's (R14, R196). -/
theorem pinChanged_eq (runs activeHigh : Bool) (time : Nat) (level : PinLevel) (q : Qualifier) :
    pinChanged runs activeHigh time level q = q.pinTo runs activeHigh time level := by
  obtain ⟨same, eq⟩ | ⟨moves, rfl, eq⟩ | ⟨moves, rfl, eq⟩ := q.pinTo_cases runs activeHigh time level <;> rw [eq, pinChanged]
  · rw [if_pos same]
  · rw [if_neg moves, if_pos rfl]
  · rw [if_neg moves, if_neg Bool.false_ne_true]

/-- Settles O47: the model's pin change, once its phase test is read as R190's. -/
theorem pinChangesStartTheirQualifier : Obligations.PinChangesStartTheirQualifier := by
  intro n level s
  simp only [pinChanged_eq, ← timeRuns_eq]
  exact ⟨rfl, rfl, rfl⟩

/-! ### The reset state (R190) -/

theorem resetOk_reset : ResetOk State.reset := by decide

theorem severityOk_reset : SeverityOk State.reset := by decide

/-- The factory working set passes every check of the SET requests (R193). -/
theorem workingSetOk_factory : WorkingSetOk WorkingSet.factory := ⟨by decide, by decide, by decide⟩

theorem loadsOk_reset : LoadsOk State.reset := by
  have reset : CoreAtReset State.reset := ⟨rfl, rfl, rfl⟩
  exact loadsOk_iff.mpr ⟨reset.records _, reset.seqOk _, reset.killOk⟩

/-- Settles O49: every block of the reset state is at its reset values, under the factory working set. -/
theorem resetStateIsSafe : Obligations.ResetStateIsSafe := by
  refine ⟨resetOk_reset, ⟨workingSetOk_factory, ?_, ?_, ?_⟩, by decide, by decide, loadsOk_reset, severityOk_reset, by decide,
    by decide, by decide⟩
  · intro w held; cases held
  · intro w held; cases held
  · intro v saving; cases saving

/-! ### Resets (R190) -/

/-- A reset puts every block at its reset values and stops everything; it keeps the slots and the pins (R190). -/
theorem takeReset_resets (phase : Phase) (cause : ResetCause) (s : State) :
    BlocksAtReset (s.takeReset phase cause) ∧ NothingRuns (s.takeReset phase cause) ∧
      ∀ n : LoadIx, (s.takeReset phase cause).quals.pg[n].pin = s.quals.pg[n].pin := by
  have pg : ∀ n : LoadIx, (s.takeReset phase cause).quals.pg[n] = s.quals.pg[n].afterReset := fun n => by
    simp [State.takeReset]
  refine ⟨⟨rfl, rfl, rfl, rfl, rfl, rfl, rfl, rfl, rfl, rfl, rfl, rfl, rfl, rfl, rfl⟩,
    ⟨rfl, rfl, rfl, ⟨rfl, rfl⟩, ⟨rfl, rfl⟩, fun n => ?_⟩, fun n => ?_⟩
  · rw [pg n]; exact ⟨rfl, rfl⟩
  · rw [pg n]; rfl

/-- Settles O9: the three causes and a loss of power take the one reset of R190. -/
theorem resetsGiveEveryBlockItsResetValues : Obligations.ResetsGiveEveryBlockItsResetValues := by
  intro s
  refine ⟨fun c cause which => ?_, ?_, fun unpowered => ?_⟩
  · have taken : exec c s = .next (s.takeReset .held cause) := by
      obtain ⟨rfl, rfl⟩ | ⟨rfl, rfl, powered⟩ | ⟨rfl, rfl, r, onLine, resets⟩ := which
      · rfl
      · exact congrArg Host.Outcome.next (if_neg powered)
      · simp only [exec, execLineFrees, onLine, resets, if_true]
    obtain ⟨blocks, stopped, pins⟩ := takeReset_resets .held cause s
    exact ⟨_, taken, rfl, blocks, stopped, rfl, rfl, rfl, rfl, rfl, pins⟩
  · obtain ⟨blocks, stopped, -⟩ := takeReset_resets .unpowered s.session.cause s
    exact ⟨_, rfl, rfl, blocks, stopped, rfl, rfl, rfl⟩
  · exact congrArg Host.Outcome.next (if_pos unpowered)

end Sys2Proof.Proofs
end

section
/-! PROOFS. The requests DEMAND, SET LOAD and SET GLOBALS, and a reading at a load (O22, O23, O25, O29, O42). -/

namespace Sys2Proof.Proofs

open Sys2Proof.Machine Sys2Proof.Safety Sys2Proof.Claims

/-! ### Masks (R162) -/

/-- The low k bits of a number, added up. -/
theorem sum_bits (m : Nat) : ∀ k, ((List.range k).map fun i => if m.testBit i then 2 ^ i else 0).sum = m % 2 ^ k
  | 0 => by simp [Nat.mod_one]
  | k + 1 => by
    rw [List.range_succ, List.map_append, List.sum_append, sum_bits m k, Nat.mod_pow_succ, List.map_singleton,
      List.sum_singleton, Nat.testBit_eq_decide_div_mod_eq]
    obtain bit | bit := Nat.mod_two_eq_zero_or_one (m / 2 ^ k) <;> simp [bit]

/-- The sum over the members of a list that satisfy a test. -/
theorem sum_map_filter (p : LoadIx → Bool) (f : LoadIx → Nat) :
    ∀ ns : List LoadIx, ((ns.filter p).map f).sum = (ns.map fun n => if p n then f n else 0).sum
  | [] => rfl
  | n :: ns => by
    cases h : p n <;> simp [h, sum_map_filter p f ns]

theorem allLoads_val : allLoads.map (·.val) = List.range 16 := by decide

theorem mem_allLoads (n : LoadIx) : n ∈ allLoads := (by decide : ∀ n : LoadIx, n ∈ allLoads) n

/-- The model's mask of loads is the claims'. -/
theorem loadMask_filter (p : LoadIx → Bool) : loadMask (allLoads.filter p) = maskOf (allLoads.filter p) := by
  unfold loadMask maskOf
  rw [sum_map_filter]
  refine congrArg List.sum (List.map_congr_left fun n _ => ?_)
  simp [mem_allLoads]

/-- The loads that a mask names are named by it. -/
theorem loadMask_maskLoads {m : Nat} (small : m < 65536) : loadMask (maskLoads m) = m := by
  unfold loadMask maskLoads
  rw [sum_map_filter]
  have bits : (allLoads.map fun n => if m.testBit n.val then 2 ^ n.val else 0) =
      (List.range 16).map fun i => if m.testBit i then 2 ^ i else 0 := by
    rw [← allLoads_val, List.map_map]; rfl
  rw [bits, sum_bits]
  exact Nat.mod_eq_of_lt small

theorem maskLoads_eq (m : Nat) : maskLoads m = loadsOf m := by
  unfold maskLoads loadsOf
  exact List.filter_congr fun n _ => Nat.testBit_eq_decide_div_mod_eq

/-- The bytes of a two-byte field. -/
theorem le16_bytes (lo hi : Byte) : le16 (lo.toNat + 256 * hi.toNat) = [lo, hi] := by
  have low := lo.isLt
  unfold le16
  congr 1
  · exact BitVec.eq_of_toNat_eq (by rw [BitVec.toNat_ofNat]; omega)
  · congr 1
    exact BitVec.eq_of_toNat_eq (by rw [BitVec.toNat_ofNat]; have := hi.isLt; omega)

theorem u16_bytes (lo hi action : Byte) : u16 [lo, hi, action] 0 = lo.toNat + 256 * hi.toNat := rfl

theorem u16_lt (lo hi action : Byte) : u16 [lo, hi, action] 0 < 65536 := by
  have low := lo.isLt
  have high := hi.isLt
  rw [u16_bytes]; omega

theorem u16_ne_zero {lo hi : Byte} (action : Byte) : u16 [lo, hi, action] 0 ≠ 0 ↔ lo ≠ 0x00#8 ∨ hi ≠ 0x00#8 := by
  have zero : ∀ b : Byte, b ≠ 0x00#8 ↔ b.toNat ≠ 0 := fun b => by
    rw [ne_eq, ← BitVec.toNat_inj]; rfl
  rw [u16_bytes, zero, zero]; omega

/-! ### DEMAND (R162, R163) -/

/-- A yes/no field takes 0 and 1 alone. -/
theorem yesNo?_eq_none {n : Nat} (notNo : n ≠ 0) (notYes : n ≠ 1) : yesNo? n = none :=
  match n with
  | 0 => absurd rfl notNo
  | 1 => absurd rfl notYes
  | _ + 2 => rfl

/-- Demand ON to several fitted loads while KILL is deasserted (R7). -/
theorem eachLoad_demandOn_eq (cause : Cause) :
    ∀ (ns : List LoadIx) (s : State), (∀ n ∈ ns, s.ws.loads[n].fitted = true) → s.quals.kill.qualified = false →
      s.eachLoad ns (State.demandOn cause) = s.eachLoad ns (onEvent cause).act
  | [], _, _, _ => rfl
  | n :: ns, s, fitted, kill => by
    have frame := (loadChange_demandOn cause (s := s) (n := n)).frame
    rw [State.eachLoad_cons, State.eachLoad_cons, ← demandOn_eq_act cause (fitted n (.head ns)) kill]
    exact eachLoad_demandOn_eq cause ns _ (fun m mem => by rw [frame.ws]; exact fitted m (.tail n mem))
      (by rw [frame.quals]; exact kill)

section

variable {f : Frame} {m0 m1 action : Byte} {s : State} (body : f.body = [m0, m1, action])
include body

/-- A DEMAND without a load or without a known action (R162). -/
theorem answerDemand_badField (bad : (action ≠ 0x00#8 ∧ action ≠ 0x01#8) ∨ (m0 = 0x00#8 ∧ m1 = 0x00#8)) :
    answerDemand f.body s = Answer.refuse .badField s := by
  rw [body]
  change (match yesNo? action.toNat with
    | none => Answer.refuse .badField s
    | some on => if u16 [m0, m1, action] 0 = 0 then Answer.refuse .badField s else _) = _
  split
  case h_1 => rfl
  case h_2 on known =>
    refine if_pos (Decidable.not_not.mp fun names => ?_)
    obtain ⟨notOff, notOn⟩ | ⟨rfl, rfl⟩ := bad
    · have off : action.toNat ≠ 0 := fun zero => notOff (BitVec.eq_of_toNat_eq zero)
      have on : action.toNat ≠ 1 := fun one => notOn (BitVec.eq_of_toNat_eq one)
      rw [yesNo?_eq_none off on] at known
      cases known
    · exact names rfl

theorem answerDemand_off (off : action = 0x00#8) (some : m0 ≠ 0x00#8 ∨ m1 ≠ 0x00#8) :
    answerDemand f.body s = demandReply .ok (maskLoads (u16 f.body 0)) []
      (s.eachLoad (maskLoads (u16 f.body 0)) (State.demandOff .demand)) := by
  subst off
  rw [body]
  exact if_neg ((u16_ne_zero _).mpr some)

theorem answerDemand_killed (on : action = 0x01#8) (some : m0 ≠ 0x00#8 ∨ m1 ≠ 0x00#8) (kill : s.quals.kill.qualified = true) :
    answerDemand f.body s = Answer.refuse .killed s := by
  subst on
  rw [body]
  exact (if_neg ((u16_ne_zero _).mpr some)).trans (if_pos kill)

theorem answerDemand_on (on : action = 0x01#8) (some : m0 ≠ 0x00#8 ∨ m1 ≠ 0x00#8) (kill : s.quals.kill.qualified = false) :
    answerDemand f.body s = answerDemandOn (maskLoads (u16 f.body 0)) s := by
  subst on
  rw [body]
  exact (if_neg ((u16_ne_zero _).mpr some)).trans (if_neg (by rw [kill]; decide))

end

/-- Settles O22: the model's demand OFF at each load of the mask, whose bytes are those of the request. -/
theorem demandOffSwitchesTheMaskOff : Obligations.DemandOffSwitchesTheMaskOff := by
  intro f m0 m1 s h body some
  have answer : answerDemand f.body (taken s) =
      { state := withGrant (withDemandOff .demand (loadsOf (u16 f.body 0)) (taken s))
        body := [0x00#8, m0, m1, 0x00#8, 0x00#8] } := by
    rw [answerDemand_off body rfl some, withGrant_eq, ← maskLoads_eq, withDemandOff_eq .demand (nodup_maskLoads _), demandReply,
      body, loadMask_maskLoads (u16_lt _ _ _), u16_bytes, le16_bytes]
    rfl
  exact ⟨_, rfl, executed_takeRequest h answerDemand answer⟩

/-- The model's division of a mask is the claims' (R163). -/
theorem filter_acceptsOn (s : State) (ns : List LoadIx) :
    ns.filter (fun n => !s.acceptsOn n) =
      ns.filter fun n => !s.ws.loads[n].fitted || decide (s.loads[n].state = .locked) :=
  List.filter_congr fun n _ => by
    unfold State.acceptsOn
    rw [Bool.not_and, decide_not, Bool.not_not]

/-- Settles O23: the model's division of the mask, and its demand ON at each accepted load, which is fitted. -/
theorem demandOnDividesTheMask : Obligations.DemandOnDividesTheMask := by
  intro f m0 m1 action s h body mask accepted refused
  have demand : ∀ {st : Status}, answerDemand f.body (taken s) = Answer.refuse st (taken s) →
      ∃ t, exec .demand s = .next t ∧ Executed f st.bytes false (taken s) t := fun answer =>
    ⟨_, rfl, executed_takeRequest h answerDemand answer⟩
  have acceptedLoads : (maskLoads (u16 f.body 0)).filter (taken s).acceptsOn = accepted := by rw [maskLoads_eq]; rfl
  have refusedLoads : (maskLoads (u16 f.body 0)).filter (fun n => !(taken s).acceptsOn n) = refused := by
    rw [maskLoads_eq, filter_acceptsOn]; rfl
  refine ⟨fun bad => demand (answerDemand_badField body bad), fun on some kill => demand (answerDemand_killed body on some kill),
    fun on some kill none => demand (st := .badState) ?_, fun on some kill any => ?_⟩
  · rw [answerDemand_on (s := taken s) body on some kill, answerDemandOn, acceptedLoads, if_pos none]
  · have distinct : accepted.Nodup := acceptedLoads ▸ (nodup_maskLoads _).filter _
    have fitted : ∀ n ∈ accepted, (taken s).ws.loads[n].fitted = true := fun n mem => by
      obtain ⟨-, accepts⟩ := List.mem_filter.mp mem
      exact (Bool.and_eq_true_iff.mp accepts).1
    have answer : answerDemand f.body (taken s) =
        { state := withGrant (withDemandOn .demand accepted (taken s))
          body := (if refused = [] then [0x00#8] else [0x08#8]) ++ le16 (maskOf accepted) ++ le16 (maskOf refused) } := by
      have acceptedMask : loadMask accepted = maskOf accepted := by
        change loadMask ((allLoads.filter _).filter _) = maskOf ((allLoads.filter _).filter _)
        rw [List.filter_filter]; exact loadMask_filter _
      have refusedMask : loadMask refused = maskOf refused := by
        change loadMask ((allLoads.filter _).filter _) = maskOf ((allLoads.filter _).filter _)
        rw [List.filter_filter]; exact loadMask_filter _
      rw [answerDemand_on (s := taken s) body on some kill, answerDemandOn, acceptedLoads, refusedLoads, if_neg any, demandReply,
        eachLoad_demandOn_eq .demand accepted _ fitted kill, ← withDemandOn_eq .demand distinct, withGrant_eq, acceptedMask,
        refusedMask]
      split <;> rfl
    exact ⟨_, rfl, executed_takeRequest h answerDemand answer⟩

/-! ### SET LOAD (R29, R165) -/

/-- A field that names a load. -/
theorem load?_val (n : LoadIx) : load? n.val = some n := dif_pos n.isLt

/-- Settles O25: fields before state, and the model's replacement. -/
theorem setLoadReplacesTheConfiguration : Obligations.SetLoadReplacesTheConfiguration := by
  intro f s h length
  have fits : ¬ f.body.length ≠ 14 := not_not_intro length
  have refused : ∀ {st : Status}, answerSetLoad f.body (taken s) = Answer.refuse st (taken s) →
      ∃ t, exec .setLoad s = .next t ∧ Executed f st.bytes false (taken s) t := fun answer =>
    ⟨_, rfl, executed_takeRequest h answerSetLoad answer⟩
  have known : ∀ (n : LoadIx) (c : LoadConfig), u8 f.body 0 = n.val → LoadConfig.ofBody f.body = some c →
      answerSetLoad f.body (taken s) =
        if (taken s).loads[n].state = .off then Answer.ok ((taken s).configureLoad n c) [] else Answer.refuse .badState (taken s) :=
    fun n c load config => by
      rw [answerSetLoad, if_neg fits, load, load?_val, config]
  refine ⟨fun bad => refused (st := .badField) ?_, fun n c load config notOff => refused (st := .badState) ?_,
    fun n c load config off => ?_⟩
  · rw [answerSetLoad, if_neg fits]
    obtain noLoad | noConfig := bad
    · rw [load?, dif_neg (by omega)]
    · rw [noConfig]
      cases load? (u8 f.body 0) <;> rfl
  · rw [known n c load config]; exact if_neg notOff
  · have answer : answerSetLoad f.body (taken s) =
        { state := { reconfigured { s.ws with loads := s.ws.loads.set n c } (taken s) with
            loads := s.loads.set n { s.loads[n] with retries := 0, overStreak := 0, senseStreak := 0 } }
          body := [0x00#8] } := by
      rw [known n c load config]; exact if_pos off
    exact ⟨_, rfl, executed_takeRequest h answerSetLoad answer⟩

/-! ### SET GLOBALS (R155, R177) -/

/-- The claims' part after an accepted SET GLOBALS is the model's. -/
theorem globalsSet_eq (g : Globals) (s : State) : globalsSet g s = s.configureGlobals g := by
  have timer : ∀ u : State, u.ws.globals = g →
      (if u.session.state = .up then { u with session := { u.session with silence := silenceFor g } } else u) =
        u.retimeSilence := fun u globals => by
    unfold State.retimeSilence State.restartSilence silenceFor
    rw [globals]
  unfold globalsSet
  rw [withGrant_eq, withDepth_eq]
  refine timer _ ?_
  rw [State.considerGrant_ws, (formDepth_changes _).frame.ws, depthSet_ws]
  rfl

/-- Settles O29: all six values or none, and the model's order of depth, grant and silence timer. -/
theorem setGlobalsAppliesAllSix : Obligations.SetGlobalsAppliesAllSix := by
  intro f s h length
  have fits : ¬ f.body.length ≠ 7 := not_not_intro length
  refine ⟨fun bad => ?_, fun g config => ?_⟩
  · have answer : answerSetGlobals f.body (taken s) = Answer.refuse .badField (taken s) := by
      rw [answerSetGlobals, if_neg fits, bad]
    exact ⟨_, rfl, executed_takeRequest h answerSetGlobals answer⟩
  · have answer : answerSetGlobals f.body (taken s) = { state := globalsSet g (taken s), body := [0x00#8] } := by
      rw [answerSetGlobals, if_neg fits, config, globalsSet_eq]; rfl
    exact ⟨_, rfl, executed_takeRequest h answerSetGlobals answer⟩

/-! ### A reading at a load (R11, R13, R18 to R20) -/

/-- STARTING and ON are left without streaks (R9, R19). -/
theorem leave_streaks {r : LoadRec} (runs : r.state = .starting ∨ r.state = .on) (above invalid : Nat) :
    LoadRec.leave { r with overStreak := above, senseStreak := invalid } = r.leave := by
  unfold LoadRec.leave
  obtain state | state := runs <;> simp only [state]

/-- So a trip clears the streaks that led to it (R19). -/
theorem trip_streaks {n : LoadIx} {s : State} (runs : s.loads[n].state = .starting ∨ s.loads[n].state = .on) (cause : TripCause)
    (above invalid : Nat) :
    State.trip cause n (s.setLoad n { s.loads[n] with overStreak := above, senseStreak := invalid }) = withTrip cause n s := by
  have left := leave_retries { s.loads[n] with overStreak := above, senseStreak := invalid } (s.loads[n].retries + 1) (some cause)
  rw [leave_streaks runs] at left
  rw [withTrip_eq]
  unfold State.trip
  simp only [setLoad_load, setLoad_setLoad, State.setLoad_ws, moveLoad_setLoad, leave_retries, left]

/-- The claims' reading at a load is the model's. -/
theorem loadAfter_eq {n : LoadIx} {s : State} (runs : s.loads[n].state = .starting ∨ s.loads[n].state = .on) (limit : Nat)
    (cause : TripCause) (reading : Reading) :
    loadAfter n limit cause reading s =
      match reading with
      | some v => s.judgeCurrent n limit cause v
      | none => s.countSenseFault n := by
  cases reading with
  | some v =>
    dsimp only [loadAfter]
    obtain ⟨none, eq⟩ | ⟨some, within, eq⟩ | ⟨some, above, fits, eq⟩ | ⟨some, above, spent, eq⟩ :=
      s.judgeCurrent_cases n limit cause v <;> rw [eq]
    · rw [if_pos none]; rfl
    · rw [if_neg some, if_pos within]; rfl
    · rw [if_neg some, if_neg (by omega), if_pos fits]; rfl
    · rw [if_neg some, if_neg (by omega), if_neg (by omega)]
      exact (trip_streaks runs cause _ _).symm
  | none =>
    dsimp only [loadAfter]
    obtain ⟨fits, eq⟩ | ⟨spent, eq⟩ := s.countSenseFault_cases n <;> rw [eq]
    · rw [if_pos fits]; rfl
    · rw [if_neg (by omega)]
      exact (trip_streaks runs .senseFault s.loads[n].overStreak _).symm

theorem loadTakes_starting {n : LoadIx} {s : State} (starting : s.loads[n].state = .starting) (reading : Reading) :
    s.loadTakes n reading = withGrant (loadAfter n s.ws.loads[n].inrush .inrush reading s) := by
  rw [withGrant_eq, loadAfter_eq (.inl starting)]
  unfold State.loadTakes
  cases reading <;> simp only [starting]

theorem loadTakes_on {n : LoadIx} {s : State} (on : s.loads[n].state = .on) (reading : Reading) :
    s.loadTakes n reading = loadAfter n s.ws.loads[n].runLimit .overcurrent reading s := by
  rw [loadAfter_eq (.inr on)]
  unfold State.loadTakes
  cases reading <;> simp only [on]

/-- Any other state ignores a reading (R20). -/
theorem loadTakes_of_off {n : LoadIx} {s : State} (notStarting : s.loads[n].state ≠ .starting) (notOn : s.loads[n].state ≠ .on)
    (reading : Reading) : s.loadTakes n reading = s := by
  unfold State.loadTakes
  split
  case h_1 state => exact absurd state notStarting
  case h_2 state => exact absurd state notOn
  case h_3 state => exact absurd state notStarting
  case h_4 state => exact absurd state notOn
  all_goals rfl

/-- Settles O42: by the state of the load, the model's judging of the reading. -/
theorem loadReadingJudgesOrIgnores : Obligations.LoadReadingJudgesOrIgnores := by
  intro d rest s waiting n p
  have reads : exec .loadReading s = .next (p.loadTakes n d.reading).kick := by
    simp only [exec, execLoadReading, waiting]; rfl
  refine ⟨fun starting => ⟨_, reads, ?_⟩, fun on => ⟨_, reads, ?_⟩, fun notStarting notOn => ⟨_, reads, ?_⟩⟩
  · rw [loadTakes_starting (s := p) starting]; exact lineTaken_kick _
  · rw [loadTakes_on (s := p) on]; exact lineTaken_kick _
  · rw [loadTakes_of_off (s := p) notStarting notOn]; exact lineTaken_kick _

end Sys2Proof.Proofs
end

section
/-! PROOFS. The end of start-up (O12). -/

namespace Sys2Proof.Proofs

open Sys2Proof.Machine Sys2Proof.Safety Sys2Proof.Claims

/-! ### Steps 4 to 6 in the words of the claims (R194, R195) -/

/-- Autostart reaches the fitted loads that ask for it (R28). -/
theorem eachLoad_autostart :
    ∀ (ns : List LoadIx) (s : State), s.eachLoad ns State.autostartLoad =
      s.eachLoad (ns.filter fun n => s.ws.loads[n].fitted && s.ws.loads[n].autostart) (State.demandOn .autostart)
  | [], _ => rfl
  | n :: ns, s => by
    have frame := (loadChange_autostartLoad (s := s) (n := n)).frame
    rw [State.eachLoad_cons, eachLoad_autostart ns, frame.ws, List.filter_cons]
    unfold State.autostartLoad
    cases autostart : s.ws.loads[n].autostart with
    | false => rw [Bool.and_false]; rfl
    | true =>
      cases fitted : s.ws.loads[n].fitted with
      | false =>
        have refused : s.demandOn .autostart n = s := by unfold State.demandOn; rw [fitted, Bool.not_false, Bool.or_true]; rfl
        rw [if_pos rfl, refused]; rfl
      | true => rfl

/-- While KILL is deasserted the claims' autostart is the model's. -/
theorem withAutostart_eq {s : State} (kill : s.quals.kill.qualified = false) :
    withDemandOn .autostart (allLoads.filter fun n => s.ws.loads[n].fitted && s.ws.loads[n].autostart) s =
      s.eachLoad allLoads State.autostartLoad := by
  rw [withDemandOn_eq .autostart (nodup_filter_allLoads _), eachLoad_autostart]
  refine (eachLoad_demandOn_eq .autostart _ s (fun n mem => ?_) kill).symm
  obtain ⟨-, starts⟩ := List.mem_filter.mp mem
  exact (Bool.and_eq_true_iff.mp starts).1

/-- The state of a slot that PROFILE_LOADED names is the one the selection judged (R183, R194; log 14). -/
theorem slotStateOf_selected (s : State) (n : SlotName) :
    slotStateOf (s.selectProfile.prof.slot n) = (s.selectProfile.prof.known n).state := by
  have judged : ∀ c : NvSlot, slotStateOf c = c.judge.state := fun c => by
    cases c with
    | blank | torn => rfl
    | written g image =>
      have judge : (NvSlot.written g image).judge = if image.ok then .valid g else .invalid := rfl
      have named : slotStateOf (.written g image) = if image.ok then .valid else .invalid := rfl
      rw [judge, named]
      cases image.ok <;> rfl
  cases n <;> exact judged _

/-- KILL handed on (R26, R197). -/
theorem handKill_true_eq (s : State) :
    s.handKill true = withDemandOff .kill allLoads { s with store := s.store.post s.timeBase [.kill true] } := by
  rw [handKill_eq, withDemandOff_eq .kill (by decide)]; rfl

theorem startupReports_ws (s : State) : s.startupReports.ws = s.ws := by
  obtain ⟨ws, -⟩ := startupKilled_frame s
  rw [startupReports_eq]
  split
  · rw [(formDepth_changes _).frame.ws, depthSet_ws]; exact ws
  · exact ws

/-- The claims' steps 4 to 6 are the model's. -/
theorem startedUp_eq (asInh : PinLevel) {s : State} (list : s.selectProfile.ws.scanList ≠ []) :
    startedUp asInh s.selectProfile = s.selectProfile.startupReports.startRunning asInh := by
  unfold startedUp
  extract_lets a b unit c d e session
  have posted : a = (s.selectProfile.post [s.selectProfile.resetReport]).post [s.selectProfile.profileLoadedReport] := by
    simp only [a, slotStateOf_selected]; rfl
  have killed : b = startupKilled s.selectProfile := by
    simp only [b, posted]
    unfold startupKilled
    rw [handKill_true_eq]
    rfl
  have reported : c = s.selectProfile.startupReports := by
    obtain ⟨-, -, quals, -⟩ := startupKilled_frame s.selectProfile
    simp only [c, unit, killed, withDepth_eq]
    rw [startupReports_eq, ← quals]
    rfl
  have scanning : d = { s.selectProfile.startupReports with
      scan := s.selectProfile.startupReports.scan.begin s.selectProfile.startupReports.ws.scanList 0 } := by
    simp only [d, reported]
    rw [begin_zero_eq (by rw [startupReports_ws]; exact list)]
  have started : e = State.considerGrant
      (if asInh = .high ∧ d.quals.kill.qualified = false then d.eachLoad allLoads State.autostartLoad else d) := by
    simp only [e, withGrant_eq]
    split
    case isTrue h => rw [withAutostart_eq h.2]
    case isFalse => rfl
  simp only [session, started, scanning]
  rfl

/-! ### The records that start-up posts (R106, R123, R194) -/

/-- From s to t reports have been posted, and no credit has come or gone. -/
def Grown (s t : State) : Prop :=
  (∃ more, t.store.records = s.store.records ++ more) ∧ t.store.credits = s.store.credits

theorem Grown.refl (s : State) : Grown s s := ⟨⟨[], (List.append_nil _).symm⟩, rfl⟩

theorem Grown.trans {s t u : State} (h : Grown s t) (g : Grown t u) : Grown s u := by
  obtain ⟨⟨more, records⟩, credits⟩ := h
  obtain ⟨⟨more', records'⟩, credits'⟩ := g
  exact ⟨⟨more ++ more', by rw [records', records, List.append_assoc]⟩, credits'.trans credits⟩

/-- A report is placed behind the others, or dropped (R107, R109). -/
theorem grown_post {s t : State} {ps : List Payload} (store : t.store = s.store.post s.timeBase ps) : Grown s t := by
  obtain ⟨more, records, -⟩ := s.store.post_records s.timeBase ps
  rw [Grown, store]
  exact ⟨⟨more, records⟩, s.store.post_credits s.timeBase ps⟩

theorem LoadChange.grown {s t : State} {n : LoadIx} (h : LoadChange s n t) : Grown s t := by
  cases h with
  | write => exact .refl s
  | move => exact grown_post rfl

theorem LoadChanges.grown {s t : State} {ns : List LoadIx} (h : LoadChanges s ns t) : Grown s t := by
  induction h with
  | nil s => exact .refl s
  | cons head _ ih => exact head.grown.trans ih

theorem grown_considerGrant (s : State) : Grown s s.considerGrant := by
  obtain ⟨-, eq⟩ | ⟨e, rest, -, -, eq⟩ := s.considerGrant_cases <;> rw [eq]
  exacts [.refl s, grown_post rfl]

theorem grown_formDepth (s : State) : Grown s s.formDepth := by
  refine Grown.trans ?_ (formDepth_changes s).grown
  unfold depthSet
  split
  exacts [.refl s, grown_post rfl]

/-- Step 4 posts RESET and PROFILE_LOADED first (R194). -/
theorem grown_startupReports (s : State) :
    Grown ((s.post [s.resetReport]).post [s.profileLoadedReport]) s.startupReports := by
  have killed : Grown ((s.post [s.resetReport]).post [s.profileLoadedReport]) (startupKilled s) := by
    unfold startupKilled
    split
    exacts [(grown_post rfl).trans (handKill_changes true _).grown, .refl _]
  rw [startupReports_eq]
  split
  · have handed : Grown (startupKilled s) (startupShedInput s) := grown_post rfl
    exact (killed.trans handed).trans (grown_formDepth _)
  · exact killed

theorem grown_startRunning (asInh : PinLevel) (s : State) : Grown s (s.startRunning asInh) := by
  have autostart : ∀ u : State, Grown u (u.eachLoad allLoads State.autostartLoad) := fun u =>
    (loadChanges_eachLoad (fun _ _ => loadChange_autostartLoad) allLoads u).grown
  unfold State.startRunning
  dsimp only
  refine Grown.trans ?_ (grown_considerGrant _)
  split
  exacts [autostart { s with scan := s.scan.begin s.ws.scanList 0 }, .refl s]

/-- Without a credit the transmitter's choice leaves the store (R113). -/
theorem kick_store_of_no_credit {s : State} (none : s.store.credits = 0) : s.kick.store = s.store := by
  have idle : s.store.offers = false := Store.offers_eq_false.mpr (.inl none)
  obtain ⟨-, eq⟩ | ⟨r, rest, -, -, eq⟩ | ⟨-, -, offers, -⟩ | ⟨-, -, -, eq⟩ := s.kick_cases
  · rw [eq]
  · rw [eq]
  · exact absurd (idle.symm.trans offers) (by decide)
  · rw [eq]

/-- The reset store after the two reports of step 4. -/
theorem resetStore_reports (time : DWord) (first second : Payload) :
    ((Store.reset.post time [first]).post time [second]).records =
        [newRecord time 0 true true first, newRecord time 1 true true second] ∧
      ((Store.reset.post time [first]).post time [second]).credits = 0 := ⟨rfl, rfl⟩

/-- Settles O12: steps 4 to 6 as the model takes them one by one, of which each report but the first two comes behind them. -/
theorem startUpPostsHandsOnAndStarts : Obligations.StartUpPostsHandsOnAndStarts := by
  intro asInh s selecting runs inTime q list
  have running : s.startup.isRunning = true := by
    cases h : s.startup.isRunning with
    | false => exact absurd (isRunning_eq_false.mp h) runs
    | true => rfl
  have allowed : s.allows s.startup.left = true := by rw [← inTime_iff, ← timeLeft_eq]; exact inTime
  have completes : exec (.profileSelection asInh) s = .next (q.startupReports.startRunning asInh).kick := by
    refine (congrArg Host.Outcome.next (if_pos ⟨selecting, running, allowed⟩)).trans ?_
    rw [← timeLeft_eq]; rfl
  refine ⟨_, completes, ?_, fun blocks => ?_⟩
  · rw [startedUp_eq asInh list]; exact lineTaken_kick _
  · have reset : q.store = Store.reset := by
      obtain ⟨-, -, -, -, -, store, -⟩ := blocks
      exact (State.elapse_store _ s).trans store
    have cause : q.session.cause = s.session.cause := State.elapse_session_cause _ s
    have straps : q.prof.straps = s.prof.straps := State.elapse_prof_straps _ s
    obtain ⟨records, credits⟩ := resetStore_reports q.timeBase q.resetReport q.profileLoadedReport
    rw [← reset] at records credits
    obtain ⟨⟨rest, more⟩, same⟩ := (grown_startupReports q).trans (grown_startRunning asInh q.startupReports)
    have noCredit : (q.startupReports.startRunning asInh).store.credits = 0 := same.trans credits
    refine ⟨rest, ?_⟩
    rw [kick_store_of_no_credit noCredit, more]
    refine (congrArg (· ++ rest) records).trans ?_
    rw [State.resetReport, cause, straps, State.profileLoadedReport, ← slotStateOf_selected]
    rfl

end Sys2Proof.Proofs
end

section
/-! PROOFS. A reading at a ladder and at all of them, in closed form (O40). -/

namespace Sys2Proof.Proofs

open Sys2Proof.Machine Sys2Proof.Safety Sys2Proof.Claims

/-! ### The levels of a ladder (R52, R53, R55) -/

theorem highestOf_append (ks : List Nat) (k : Nat) : highestOf (ks ++ [k]) = max (highestOf ks) k := by
  simp only [highestOf, List.foldl_append, List.foldl_cons, List.foldl_nil]

/-- The highest number from 1 to n of which p holds (R52, R53). -/
theorem highestOf_range (p : Nat → Bool) (n : Nat) : highestOf ((List.range' 1 n).filter p) = highest p n := by
  induction n with
  | zero => rfl
  | succ n ih =>
    obtain ⟨le, -⟩ := highest_spec p n
    rw [List.range'_1_concat, List.filter_append, highest, Nat.add_comm 1 n]
    cases here : p (n + 1) with
    | true =>
      rw [List.filter_cons_of_pos here, List.filter_nil, highestOf_append, ih, if_pos rfl]
      omega
    | false =>
      rw [List.filter_cons_of_neg (ne_true_of_eq_false here), List.filter_nil, List.append_nil, ih,
        if_neg Bool.false_ne_true]

theorem upOf_eq (c : LadderConfig) (reading : Reading) : upOf c reading = c.upLevel reading := by
  cases reading with
  | none => rfl
  | some v => exact highestOf_range _ _

theorem downOf_eq (c : LadderConfig) (level : Nat) (reading : Reading) : downOf c level reading = c.downLevel level reading := by
  cases reading with
  | none => rfl
  | some v => exact highestOf_range _ _

theorem fallsBelow_eq (c : LadderConfig) (level : Nat) (reading : Reading) :
    fallsBelow c level reading = c.callsDown level reading := by
  cases reading <;> rfl

/-- A reading that calls for a lower level names one (R53, R55). -/
theorem downLevel_lt {c : LadderConfig} {level : Nat} {reading : Reading} (down : c.callsDown level reading = true) :
    c.downLevel level reading < level := by
  cases reading with
  | none => exact of_decide_eq_true down
  | some v =>
    obtain ⟨positive, -⟩ := Bool.and_eq_true_iff.mp down
    have atLeastOne := of_decide_eq_true positive
    obtain ⟨le, -⟩ := highest_spec (fun k => !c.direction.cleared v (c.exitAt k)) (level - 1)
    change highest _ _ < level
    omega

/-! ### A ladder's record replaced (R56) -/

/-- s with these ladder records and this report store. -/
def withLadders (ladders : Vector Ladder 4) (store : Store) (s : State) : State :=
  { s with sev := { s.sev with ladders := ladders }, store := store }

/-- Ladder k with this record; a change of its level posts one LEVEL report with this reading (R56). -/
def ladderReplaced (k : LadderIx) (r : Ladder) (reading : Reading) (s : State) : State :=
  withLadders (s.sev.ladders.set k r)
    (if r.level ≠ s.sev.ladders[k].level then
        s.store.post s.timeBase [.level k s.sev.ladders[k].level r.level s.ws.ladders[k].source reading]
      else s.store) s

theorem changeLevel_eq {k : LadderIx} {level : Nat} {s : State} (moves : level ≠ s.sev.ladders[k].level) (reading : Reading)
    (r : Ladder) : s.changeLevel k level reading r = ladderReplaced k { r with level := level } reading s := by
  rw [ladderReplaced, if_pos moves]; rfl

theorem setLadderRec_eq {k : LadderIx} {r : Ladder} {s : State} (stays : r.level = s.sev.ladders[k].level)
    (reading : Reading) : s.setLadderRec k r = ladderReplaced k r reading s := by
  rw [ladderReplaced, if_neg (not_not_intro stays)]; rfl

/-- An evaluation gives the ladder the record of R51 to R55. -/
theorem evaluateLadder_eq (k : LadderIx) (reading : Reading) (s : State) :
    s.evaluateLadder k reading =
      ladderReplaced k (ladderAfter s.ws.ladders[k] s.sev.ladders[k] reading) reading s := by
  rw [ladderAfter, upOf_eq, downOf_eq, fallsBelow_eq]
  obtain ⟨up, more, eq⟩ | ⟨up, last, eq⟩ | ⟨stays, down, more, eq⟩ | ⟨stays, down, last, eq⟩ | ⟨stays, fine, eq⟩ :=
    s.evaluateLadder_cases k reading <;> rw [eq]
  · rw [if_pos up, if_pos more]
    exact setLadderRec_eq (by rfl) reading
  · rw [if_pos up, if_neg (Nat.not_lt.mpr last)]
    exact changeLevel_eq (Nat.ne_of_gt up) reading _
  · rw [if_neg (Nat.not_lt.mpr stays), if_pos down, if_pos more]
    exact setLadderRec_eq (by rfl) reading
  · rw [if_neg (Nat.not_lt.mpr stays), if_pos down, if_neg (Nat.not_lt.mpr last)]
    exact changeLevel_eq (Nat.ne_of_lt (downLevel_lt down)) reading _
  · rw [if_neg (Nat.not_lt.mpr stays), if_neg (ne_true_of_eq_false fine)]
    exact setLadderRec_eq (by rfl) reading

/-! ### A reading at one ladder (R51, R83) -/

/-- Ladder k was bound to the reading's channel when it arrived and still is (R83). -/
def readsAt (d : Delivery (List LadderIx)) (s : State) (k : LadderIx) : Bool :=
  d.bound.contains k && s.ws.ladders[k].enabled && decide (s.ws.ladders[k].source = d.channel)

/-- The record of ladder k after the reading. -/
def ladderRead (d : Delivery (List LadderIx)) (s : State) (k : LadderIx) : Ladder :=
  ladderAfter s.ws.ladders[k] s.sev.ladders[k] d.reading

/-- Ladder k changes its level at the reading (R56). -/
def levelChanges (d : Delivery (List LadderIx)) (s : State) (k : LadderIx) : Bool :=
  readsAt d s k && decide ((ladderRead d s k).level ≠ s.sev.ladders[k].level)

/-- The LEVEL report of ladder k (R56). -/
def levelReport (d : Delivery (List LadderIx)) (s : State) (k : LadderIx) : Payload :=
  .level k s.sev.ladders[k].level (ladderRead d s k).level s.ws.ladders[k].source d.reading

/-- The reading at these ladders in closed form. -/
def readByAll (d : Delivery (List LadderIx)) (ks : List LadderIx) (s : State) : State :=
  withLadders (Vector.ofFn fun k => if ks.contains k && readsAt d s k then ladderRead d s k else s.sev.ladders[k])
    (postAll s.timeBase ((ks.filter (levelChanges d s)).map (levelReport d s)) s.store) s

theorem readsAt_iff {d : Delivery (List LadderIx)} {s : State} {k : LadderIx} :
    readsAt d s k = true ↔ k ∈ d.bound ∧ s.ws.ladders[k].enabled = true ∧ s.ws.ladders[k].source = d.channel := by
  simp only [readsAt, Bool.and_eq_true, List.contains_iff_mem, decide_eq_true_eq, and_assoc]

/-- A reading at one ladder (R51, R83). -/
theorem ladderTakes_eq (d : Delivery (List LadderIx)) (k : LadderIx) (s : State) :
    s.ladderTakes d k =
      withLadders (if readsAt d s k then s.sev.ladders.set k (ladderRead d s k) else s.sev.ladders)
        (postAll s.timeBase (if levelChanges d s k then [levelReport d s k] else []) s.store) s := by
  cases reads : readsAt d s k with
  | false =>
    rw [State.ladderTakes, if_neg fun h => Bool.false_ne_true (reads.symm.trans (readsAt_iff.mpr h)), levelChanges, reads]
    rfl
  | true =>
    rw [State.ladderTakes, if_pos (readsAt_iff.mp reads), evaluateLadder_eq, levelChanges, reads, Bool.true_and]
    change ladderReplaced k (ladderRead d s k) d.reading s = _
    rw [ladderReplaced]
    by_cases changes : (ladderRead d s k).level ≠ s.sev.ladders[k].level
    · rw [if_pos changes, decide_eq_true changes]; rfl
    · rw [if_neg changes, decide_eq_false changes]; rfl

/-- What ladder k makes of the reading depends on its own record alone. -/
theorem ladderRead_congr (d : Delivery (List LadderIx)) {s t : State} {k : LadderIx} (ws : t.ws = s.ws)
    (record : t.sev.ladders[k] = s.sev.ladders[k]) :
    readsAt d t k = readsAt d s k ∧ ladderRead d t k = ladderRead d s k ∧ levelChanges d t k = levelChanges d s k ∧
      levelReport d t k = levelReport d s k := by
  unfold levelChanges levelReport ladderRead readsAt
  rw [ws, record]
  exact ⟨rfl, rfl, rfl, rfl⟩

theorem ladderTakes_self (d : Delivery (List LadderIx)) (k : LadderIx) (s : State) :
    (s.ladderTakes d k).sev.ladders[k] = if readsAt d s k then ladderRead d s k else s.sev.ladders[k] := by
  rw [ladderTakes_eq]
  cases readsAt d s k with
  | false => rfl
  | true => exact vector_set_self k _ _

theorem ladderTakes_other (d : Delivery (List LadderIx)) {j k : LadderIx} (ne : j ≠ k) (s : State) :
    (s.ladderTakes d k).sev.ladders[j] = s.sev.ladders[j] := by
  rw [ladderTakes_eq]
  cases readsAt d s k with
  | false => rfl
  | true => exact vector_set_other ne _ _

/-- The first ladder takes the reading, and the others take it as they would have. -/
theorem readByAll_cons (d : Delivery (List LadderIx)) {k : LadderIx} {ks : List LadderIx} (fresh : k ∉ ks) (s : State) :
    readByAll d (k :: ks) s = readByAll d ks (s.ladderTakes d k) := by
  obtain ⟨t, read⟩ : ∃ t, t = s.ladderTakes d k := ⟨_, rfl⟩
  have other : ∀ j, j ≠ k → t.sev.ladders[j] = s.sev.ladders[j] := fun j ne => read ▸ ladderTakes_other d ne s
  have same := fun j (ne : j ≠ k) => ladderRead_congr d (read ▸ State.ladderTakes_ws ..) (other j ne)
  have ne : ∀ j ∈ ks, j ≠ k := fun j mem is => fresh (is ▸ mem)
  have ladders : (Vector.ofFn fun j => if (k :: ks).contains j && readsAt d s j then ladderRead d s j else s.sev.ladders[j]) =
      Vector.ofFn fun j => if ks.contains j && readsAt d t j then ladderRead d t j else t.sev.ladders[j] := by
    refine congrArg Vector.ofFn (funext fun j => ?_)
    by_cases first : j = k
    · subst first
      rw [read, ladderTakes_self]
      simp [fresh]
    · obtain ⟨reads, record, -⟩ := same j first
      rw [reads, record, other j first]
      simp [first]
  have changed : ks.filter (levelChanges d t) = ks.filter (levelChanges d s) := List.filter_congr fun j mem => by
    obtain ⟨-, -, changes, -⟩ := same j (ne j mem)
    exact changes
  have reports : (ks.filter (levelChanges d s)).map (levelReport d t) = (ks.filter (levelChanges d s)).map (levelReport d s) :=
    List.map_congr_left fun j mem => by
      obtain ⟨-, -, -, report⟩ := same j (ne j (List.mem_of_mem_filter mem))
      exact report
  unfold readByAll
  rw [← read, ← ladders, changed, reports, read, ladderTakes_eq, List.filter_cons]
  split <;> rfl

/-- A reading at several ladders is the reading at each of them in turn (R51). -/
theorem readByAll_eq (d : Delivery (List LadderIx)) :
    ∀ {ks : List LadderIx}, ks.Nodup → ∀ s, readByAll d ks s = ks.foldl (fun t k => t.ladderTakes d k) s
  | [], _, s => by simp [readByAll, withLadders, postAll]
  | k :: ks, distinct, s => by
    obtain ⟨fresh, rest⟩ := List.nodup_cons.mp distinct
    rw [readByAll_cons d fresh, readByAll_eq d rest, List.foldl_cons]

/-- A reading at all ladders, with the depth and the grant after it (R37, R51, R59). -/
theorem laddersAfter_eq (d : Delivery (List LadderIx)) (s : State) : laddersAfter d s = s.laddersTake d := by
  have all : ∀ k : LadderIx, allLadders.contains k = true := by decide
  rw [State.laddersTake, ← readByAll_eq d (by decide : allLadders.Nodup), ← withDepth_eq, ← withGrant_eq]
  simp only [readByAll, all, Bool.true_and]
  rfl

/-- Settles O40: each bound ladder takes the reading by its own record, then the model's depth and grant. -/
theorem ladderEvaluationWalksTheLevels : Obligations.LadderEvaluationWalksTheLevels := by
  intro d rest s waiting
  refine ⟨_, by rw [exec, execLadderEvaluation, waiting], ?_⟩
  rw [laddersAfter_eq]
  exact lineTaken_kick _

end Sys2Proof.Proofs
end

section
/-! PROOFS. The requests FORCE LEVEL, SET LADDER and SET SCAN (O26, O27, O30). -/

namespace Sys2Proof.Proofs

open Sys2Proof.Machine Sys2Proof.Safety Sys2Proof.Claims

/-! ### FORCE LEVEL (R58, R167) -/

/-- A byte of a body is the field it makes. -/
theorem byte_toNat (b : Byte) : byte b.toNat = [b] := by
  rw [byte, BitVec.ofNat_toNat, BitVec.setWidth_eq]

/-- Forming the depth leaves the host floor (R58). -/
theorem formDepth_hostFloor (s : State) : s.formDepth.sev.hostFloor = s.sev.hostFloor := by
  rw [(formDepth_changes s).frame.sev, depthSet_sev]

/-- Settles O26: the field's range, and the model's floor, depth and grant. -/
theorem forceLevelSetsTheFloorAndFormsTheDepth : Obligations.ForceLevelSetsTheFloorAndFormsTheDepth := by
  intro f b s h body
  have fits : ¬ f.body.length ≠ 1 := by simp [body]
  have field : u8 f.body 0 = b.toNat := by rw [body]; rfl
  refine ⟨fun high => ?_, fun inRange => ?_⟩
  · have answer : answerForceLevel f.body (taken s) = Answer.refuse .badField (taken s) := by
      rw [answerForceLevel, if_neg fits, field, if_neg (Nat.not_le.mpr high)]
    exact ⟨_, rfl, executed_takeRequest h answerForceLevel answer⟩
  · intro own
    have state : own = (taken s).forceFloor b.toNat := by
      change withGrant (withDepth _) = _
      rw [withGrant_eq, withDepth_eq]; rfl
    have floor : own.sev.hostFloor = b.toNat := by
      rw [state, State.forceFloor, State.considerGrant_sev, formDepth_hostFloor]
    have answer : answerForceLevel f.body (taken s) =
        { state := own
          body := [0x00#8, b] ++ byte own.sev.depth ++ byte (contributorCode own.sev.contributor) } := by
      rw [answerForceLevel, if_neg fits, field, if_pos inRange, ← state]
      simp only [Answer.ok, floor, byte_toNat]
      rfl
    exact ⟨_, rfl, executed_takeRequest h answerForceLevel answer⟩

/-! ### SET LADDER (R69, R70, R168) -/

/-- A field that names a ladder. -/
theorem ladder?_val (k : LadderIx) : ladder? k.val = some k := dif_pos k.isLt

/-- The dynamic fields of a ladder that was enabled follow the table of R70. -/
theorem resetLadder_of_enabled {k : LadderIx} {old new : LadderConfig} {s : State} (enabled : old.enabled = true) :
    s.resetLadder k old new = ladderReplaced k (ladderReset old new s.sev.ladders[k]) none s := by
  unfold State.resetLadder ladderReset
  cases is : new.enabled <;> simp only [enabled]
  · split
    case isTrue zero => rw [zero]; exact setLadderRec_eq (by exact zero.symm) none
    case isFalse positive => exact changeLevel_eq (Ne.symm positive) none _
  · split
    case isTrue above => rw [changeLevel_eq (Nat.ne_of_lt above) none, Nat.min_eq_right (Nat.le_of_lt above)]
    case isFalse within => rw [Nat.min_eq_left (Nat.not_lt.mp within)]; exact setLadderRec_eq (by rfl) none

/-- A ladder that was disabled stands, or is enabled with its reset values, and tells nothing (R70). -/
theorem resetLadder_of_disabled {k : LadderIx} {old new : LadderConfig} {s : State} (disabled : old.enabled = false) :
    s.resetLadder k old new = s.setLadderRec k (ladderReset old new s.sev.ladders[k]) := by
  unfold State.resetLadder ladderReset
  cases is : new.enabled <;> simp only [disabled]
  simp [State.setLadderRec]

/-- Under its new configuration the dynamic fields of a ladder follow the table of R70, with a LEVEL report where the level of an
enabled ladder changes (R56; log 19). -/
theorem resetLadder_eq {k : LadderIx} {old new : LadderConfig} {s : State} (config : s.ws.ladders[k] = new) :
    s.resetLadder k old new =
      withLadders (s.sev.ladders.set k (ladderReset old new s.sev.ladders[k]))
        (if old.enabled && decide ((ladderReset old new s.sev.ladders[k]).level ≠ s.sev.ladders[k].level) then
            s.store.post s.timeBase
              [.level k s.sev.ladders[k].level (ladderReset old new s.sev.ladders[k]).level new.source none]
          else s.store) s := by
  cases was : old.enabled with
  | false => rw [resetLadder_of_disabled was]; rfl
  | true => rw [resetLadder_of_enabled was, ladderReplaced, config]; simp only [Bool.true_and, decide_eq_true_eq]

theorem keepsSource_iff {old new : LadderConfig} :
    old.keepsSource new = true ↔ old.enabled = true ∧ new.enabled = true ∧ old.source = new.source := by
  simp only [LadderConfig.keepsSource, Bool.and_eq_true, decide_eq_true_eq, and_assoc]

/-- The claims' part after an accepted SET LADDER is the model's (R70, R83). -/
theorem ladderSet_eq (k : LadderIx) (c : LadderConfig) (s : State) : ladderSet k c s = s.configureLadder k c := by
  simp only [ladderSet, withGrant_eq, withDepth_eq, State.configureLadder, ← keepsSource_iff]
  refine congrArg (fun t => State.considerGrant (State.formDepth t)) ?_
  rw [resetLadder_eq (vector_set_self k _ c)]
  rfl

/-- Settles O27: R69's checks, then the model's replacement by the table of R70. -/
theorem setLadderFollowsTheEnableTable : Obligations.SetLadderFollowsTheEnableTable := by
  intro f s h length
  have fits : ¬ f.body.length ≠ 23 := not_not_intro length
  have refused : answerSetLadder f.body (taken s) = Answer.refuse .badField (taken s) →
      ∃ t, exec .setLadder s = .next t ∧ Executed f [0x03#8] false (taken s) t := fun answer =>
    ⟨_, rfl, executed_takeRequest h answerSetLadder answer⟩
  refine ⟨fun bad => refused ?_, fun c config enabled off => refused ?_, fun k c number config onList => ?_⟩
  · rw [answerSetLadder, if_neg fits]
    obtain noLadder | noConfig := bad
    · rw [ladder?, dif_neg (by omega)]
    · rw [noConfig]
      cases ladder? (u8 f.body 0) <;> rfl
  · have missing : (c.enabled && !(taken s).ws.scanList.contains c.source) = true := by
      rw [enabled, Bool.true_and, Bool.not_eq_true', ← Bool.not_eq_true, List.contains_iff_mem]
      exact off
    rw [answerSetLadder, if_neg fits, config]
    cases ladder? (u8 f.body 0) with
    | none => rfl
    | some k => exact if_pos missing
  · intro own
    have listed : ¬ (c.enabled && !(taken s).ws.scanList.contains c.source) = true := by
      rw [Bool.and_eq_true, Bool.not_eq_true', ← Bool.not_eq_true, List.contains_iff_mem]
      exact fun ⟨enabled, off⟩ => off (onList enabled)
    have answer : answerSetLadder f.body (taken s) =
        { state := own, body := [0x00#8] ++ byte own.sev.ladders[k].level ++ byte own.sev.depth } := by
      rw [answerSetLadder, if_neg fits, number, ladder?_val, config, show own = _ from ladderSet_eq k c (taken s)]
      exact if_neg listed
    exact ⟨_, rfl, executed_takeRequest h answerSetLadder answer⟩

/-! ### SET SCAN (R84 to R86, R171) -/

/-- The model's check of the channels that a new list must keep is R85's. -/
theorem keepsBound_iff {list : List ChanIx} {s : State} : s.keepsBound list = true ↔ BoundKept list s := by
  have ladders : ∀ k : LadderIx, k ∈ allLadders := by decide
  have watches : ∀ w : WatchIx, w ∈ allWatches := by decide
  have loads : ∀ n : LoadIx, n ∈ allLoads := mem_allLoads
  simp only [State.keepsBound, BoundKept, Bool.and_eq_true, List.all_eq_true, ladders, watches, loads, forall_const,
    Bool.or_eq_true, Bool.not_eq_true', decide_eq_true_eq, List.contains_iff_mem, and_assoc]
  have implies : ∀ {p : Bool} {q : Prop}, p = false ∨ q ↔ (p = true → q) := fun {p} {q} => by cases p <;> simp
  refine and_congr (forall_congr' fun k => implies) (and_congr (forall_congr' fun w => or_iff_not_imp_left)
    (forall_congr' fun n => ?_))
  rw [or_assoc, implies, or_iff_not_imp_left]

/-- A list in range has an entry (R85). -/
theorem scanOfBody_ne_nil {b : List Byte} {list : List ChanIx} {pause : Nat} (h : scanOfBody b = some (list, pause)) :
    list ≠ [] := by
  unfold scanOfBody at h
  split at h
  case h_2 => exact absurd h (by simp)
  case h_1 read _ =>
    obtain ⟨inRange, same⟩ := Option.ite_none_right_eq_some.mp h
    obtain ⟨rfl, -⟩ := Prod.mk.inj (Option.some.inj same)
    rintro rfl
    simp [scanOk] at inRange

/-- How the scanner proceeds on a new list, with the priming check (R84, R86). -/
theorem scanRestarted_eq {list : List ChanIx} (some : list ≠ []) (c : Scanner) :
    scanRestarted list c = (c.restart list).checkPriming list := by
  unfold scanRestarted Scanner.restart
  cases state : c.state with
  | stopped => rfl
  | converting ch restart => rfl
  | paused => rw [begin_zero_eq some]; rfl

/-- Settles O30: R85's checks, then the model's restart on the new list, which has an entry 0. -/
theorem setScanStartsTheNewListOver : Obligations.SetScanStartsTheNewListOver := by
  intro f s h atLeast length
  have fits : ¬ (f.body.length < 2 ∨ f.body.length ≠ u8 f.body 0 + 2) := by omega
  have refused : answerSetScan f.body (taken s) = Answer.refuse .badField (taken s) →
      ∃ t, exec .setScan s = .next t ∧ Executed f [0x03#8] false (taken s) t := fun answer =>
    ⟨_, rfl, executed_takeRequest h answerSetScan answer⟩
  refine ⟨fun bad => refused ?_, fun list pause scan drops => refused ?_, fun list pause scan keeps => ?_⟩
  · rw [answerSetScan, if_neg fits, bad]
  · rw [answerSetScan, if_neg fits, scan]
    exact if_neg (mt keepsBound_iff.mp drops)
  · have answer : answerSetScan f.body (taken s) =
        { state := withGrant { reconfigured { s.ws with scanList := list, cyclePause := pause } (taken s) with
            scan := scanRestarted list s.scan }
          body := [0x00#8] } := by
      rw [answerSetScan, if_neg fits, scan, withGrant_eq, scanRestarted_eq (scanOfBody_ne_nil scan)]
      exact if_pos (keepsBound_iff.mpr keeps)
    exact ⟨_, rfl, executed_takeRequest h answerSetScan answer⟩

end Sys2Proof.Proofs
end

section
/-! PROOFS. The request SET CUTOFF, and the order of a ladder's thresholds (O28, O57). -/

namespace Sys2Proof.Proofs

open Sys2Proof.Machine Sys2Proof.Safety Sys2Proof.Claims

/-! ### SET CUTOFF (R64, R65, R169) -/

/-- The entries of a table and their order, as R64 says them. -/
theorem cutoffOk_iff (b0 b1 b2 b3 : Byte) :
    cutoffOk #v[b0.toNat, b1.toNat, b2.toNat, b3.toNat] = true ↔
      (∀ b ∈ [b0, b1, b2, b3], 1 ≤ b.toNat ∧ b.toNat ≤ 8) ∧ b1.toNat ≤ b0.toNat ∧ b2.toNat ≤ b1.toNat ∧
        b3.toNat ≤ b2.toNat := by
  simp only [cutoffOk, Bool.and_eq_true, List.all_eq_true, decide_eq_true_eq, and_assoc]
  exact and_congr (List.forall_mem_map (f := BitVec.toNat) (l := [b0, b1, b2, b3])) .rfl

/-- What the four bytes of a SET CUTOFF body say. -/
theorem cutoffOfBody_eq (b0 b1 b2 b3 : Byte) :
    cutoffOfBody [b0, b1, b2, b3] =
      if cutoffOk #v[b0.toNat, b1.toNat, b2.toNat, b3.toNat] then some #v[b0.toNat, b1.toNat, b2.toNat, b3.toNat]
      else none := rfl

/-- Events at some loads leave the records of all others. -/
theorem LoadChanges.other {s t : State} {ns : List LoadIx} (h : LoadChanges s ns t) {m : LoadIx} (notIn : m ∉ ns) :
    t.loads[m] = s.loads[m] := by
  induction h with
  | nil s => rfl
  | cons head _ ih =>
    obtain ⟨ne, notLater⟩ := not_or.mp (mt List.mem_cons.mpr notIn)
    exact (ih notLater).trans (head.other ne)

/-- The sheds of a new table add none to the loads in SHED that it does not shed, and take none from them: the loads that wait to
be restored are told by the states before the sheds (R65). -/
theorem cutoffShed_unshedWaits (table : Vector Nat 4) (s : State) :
    (cutoffShed table s).unshedWaits =
      allLoads.any fun n => decide (s.loads[n].state = .shed) && !(withCutoff table s).ws.shedAt s.sev.depth n := by
  have changes := cutoffShed_changes table s
  refine congrArg allLoads.any (funext fun n => ?_)
  have judged : (cutoffShed table s).isShed n = (withCutoff table s).ws.shedAt s.sev.depth n := by
    rw [changes.frame.isShed]; rfl
  rw [judged]
  cases shed : (withCutoff table s).ws.shedAt s.sev.depth n with
  | true => simp only [Bool.not_true, Bool.and_false]
  | false =>
    have notNewly : n ∉ cutoffSheds table s := fun mem =>
      absurd (mem_newlyShed.mp mem).1 (ne_true_of_eq_false shed)
    rw [changes.other notNewly]
    rfl

/-- The claims' part after an accepted SET CUTOFF is the model's (R65). -/
theorem cutoffSet_eq (table : Vector Nat 4) (s : State) : cutoffSet table s = s.configureCutoff table := by
  have globals : (cutoffShed table s).ws.globals = s.ws.globals := by rw [(cutoffShed_changes table s).frame.ws]; rfl
  have restored : (if (cutoffShed table s).unshedWaits then (cutoffShed table s).startHold else cutoffShed table s) =
      { cutoffShed table s with
        sev := { (cutoffShed table s).sev with
          hold := if (cutoffShed table s).unshedWaits then .running (s.ws.globals.restoreHold * 1000)
            else (cutoffShed table s).sev.hold } } := by
    split
    · rw [State.startHold, globals]
    · rfl
  change withGrant _ = State.considerGrant
    (if (cutoffShed table s).unshedWaits then (cutoffShed table s).startHold else cutoffShed table s)
  rw [withGrant_eq, restored, cutoffShed_unshedWaits, withShed_eq (nodup_filter_allLoads _)]
  rfl

/-- Settles O28: R64's checks, then the model's sheds, hold and grant. -/
theorem setCutoffShedsAtOnceAndRestoresLater : Obligations.SetCutoffShedsAtOnceAndRestoresLater := by
  intro f b0 b1 b2 b3 s h body fits
  have length : ¬ f.body.length ≠ 4 := by simp [body]
  have lawful : cutoffOk #v[b0.toNat, b1.toNat, b2.toNat, b3.toNat] = true ↔ fits := by
    rw [cutoffOk_iff, ← body]
  refine ⟨fun bad => ?_, fun good => ?_⟩
  · have answer : answerSetCutoff f.body (taken s) = Answer.refuse .badField (taken s) := by
      rw [answerSetCutoff, if_neg length, body, cutoffOfBody_eq, if_neg (mt lawful.mp bad)]
    exact ⟨_, rfl, executed_takeRequest h answerSetCutoff answer⟩
  · have answer : answerSetCutoff f.body (taken s) =
        { state := cutoffSet #v[b0.toNat, b1.toNat, b2.toNat, b3.toNat] (taken s), body := [0x00#8] } := by
      rw [answerSetCutoff, if_neg length, body, cutoffOfBody_eq, if_pos (lawful.mpr good), cutoffSet_eq]
      rfl
    exact ⟨_, rfl, executed_takeRequest h answerSetCutoff answer⟩

/-! ### The better side of a threshold (R50) -/

section
variable {d : Direction} {v a b c : Int}

theorem better_rising : Direction.rising.better a b = true ↔ a < b := decide_eq_true_iff

theorem better_falling : Direction.falling.better a b = true ↔ b < a := decide_eq_true_iff

theorem beyond_rising : Direction.rising.beyond v a = true ↔ a ≤ v := decide_eq_true_iff

theorem beyond_falling : Direction.falling.beyond v a = true ↔ v ≤ a := decide_eq_true_iff

theorem cleared_rising : Direction.rising.cleared v a = true ↔ v < a := decide_eq_true_iff

theorem cleared_falling : Direction.falling.cleared v a = true ↔ a < v := decide_eq_true_iff

theorem better_trans (ab : d.better a b = true) (bc : d.better b c = true) : d.better a c = true := by
  cases d with
  | rising => rw [better_rising] at *; exact ab.trans bc
  | falling => rw [better_falling] at *; exact bc.trans ab

/-- What is beyond a threshold is beyond each better one. -/
theorem beyond_of_better (ab : d.better a b = true) (beyond : d.beyond v b = true) : d.beyond v a = true := by
  cases d with
  | rising => rw [better_rising] at ab; rw [beyond_rising] at *; exact ab.le.trans beyond
  | falling => rw [better_falling] at ab; rw [beyond_falling] at *; exact beyond.trans ab.le

/-- A reading has cleared a threshold exactly on its better side. -/
theorem cleared_eq_better : d.cleared v a = d.better v a := by cases d <;> rfl

/-- A reading is beyond a threshold exactly off its better side. -/
theorem beyond_eq_not_better : d.beyond v a = !d.better v a := by
  cases d with
  | rising => rw [Bool.eq_iff_iff, beyond_rising, Bool.not_eq_true', ← Bool.not_eq_true, better_rising, not_lt]
  | falling => rw [Bool.eq_iff_iff, beyond_falling, Bool.not_eq_true', ← Bool.not_eq_true, better_falling, not_lt]

end

/-! ### The thresholds of a lawful ladder (R50, R69) -/

/-- Thresholds each better than the next run to the worse side with their number. -/
theorem better_of_lt {d : Direction} {limit : Nat → Int} {top : Nat}
    (next : ∀ k, 1 ≤ k → k < top → d.better (limit k) (limit (k + 1)) = true) {j k : Nat} (one : 1 ≤ j) (lt : j < k)
    (le : k ≤ top) : d.better (limit j) (limit k) = true := by
  induction k, lt using Nat.le_induction with
  | base => exact next j one le
  | succ k lt ih => exact better_trans (ih (Nat.le_of_lt le)) (next k (by omega) le)

/-- The order checks of R69, by the numbers of the thresholds. -/
theorem ladderConfig_ordered {c : LadderConfig} (ok : c.ok = true) :
    (∀ k, 1 ≤ k → k < c.top → c.direction.better (c.enterAt k) (c.enterAt (k + 1)) = true ∧
      c.direction.better (c.exitAt k) (c.exitAt (k + 1)) = true) ∧
    ∀ k, 1 ≤ k → k ≤ c.top → c.direction.better (c.exitAt k) (c.enterAt k) = true := by
  simp only [LadderConfig.ok, LadderConfig.ordered, Bool.and_eq_true, List.all_eq_true, List.mem_range] at ok
  obtain ⟨-, neighbours, pairs⟩ := ok
  refine ⟨fun k one lt => ?_, fun k one le => ?_⟩
  all_goals obtain ⟨i, rfl⟩ : ∃ i, k = i + 1 := ⟨k - 1, by omega⟩
  exacts [neighbours i (by omega), pairs i le]

section
variable {c : LadderConfig} (ok : c.ok = true) {j k : Nat}
include ok

theorem enterAt_better (one : 1 ≤ j) (lt : j < k) (le : k ≤ c.top) :
    c.direction.better (c.enterAt j) (c.enterAt k) = true :=
  better_of_lt (fun k one lt => ((ladderConfig_ordered ok).1 k one lt).1) one lt le

theorem exitAt_better (one : 1 ≤ j) (lt : j < k) (le : k ≤ c.top) :
    c.direction.better (c.exitAt j) (c.exitAt k) = true :=
  better_of_lt (fun k one lt => ((ladderConfig_ordered ok).1 k one lt).2) one lt le

theorem exitAt_better_enterAt (one : 1 ≤ k) (le : k ≤ c.top) : c.direction.better (c.exitAt k) (c.enterAt k) = true :=
  (ladderConfig_ordered ok).2 k one le

end

/-- Settles O57: R69 orders the thresholds from better to worse, and beyond and cleared are the two sides of one threshold. -/
theorem beyondAndClearedRunWithTheThresholds : Obligations.BeyondAndClearedRunWithTheThresholds := by
  intro c v ok
  have enters := fun j k => enterAt_better ok (j := j) (k := k)
  have exits := fun j k => exitAt_better ok (j := j) (k := k)
  have pairs := fun k => exitAt_better_enterAt ok (k := k)
  refine ⟨fun rising => ?_, fun falling => ?_, fun j k one le top beyond => ?_, fun j k one le top cleared => ?_,
    fun k one top cleared => ?_⟩
  · simp only [rising, better_rising] at enters exits pairs
    rw [rising]
    exact ⟨fun k => ⟨beyond_rising, cleared_rising⟩,
      fun j k one lt top => ⟨enters j k one lt top, exits j k one lt top⟩, pairs⟩
  · simp only [falling, better_falling] at enters exits pairs
    rw [falling]
    exact ⟨fun k => ⟨beyond_falling, cleared_falling⟩,
      fun j k one lt top => ⟨enters j k one lt top, exits j k one lt top⟩, pairs⟩
  · obtain rfl | lt := le.eq_or_lt
    · exact beyond
    · exact beyond_of_better (enters j k one lt top) beyond
  · obtain rfl | lt := le.eq_or_lt
    · exact cleared
    · rw [cleared_eq_better] at *
      exact better_trans cleared (exits j k one lt top)
  · rw [cleared_eq_better] at cleared
    rw [beyond_eq_not_better, better_trans cleared (pairs k one top), Bool.not_true]

end Sys2Proof.Proofs
end

section
/-! PROOFS. Fields of a body against their bytes: what is read at an offset is what was written there (R156, R199). -/

namespace Sys2Proof.Proofs

open Sys2Proof.Machine Sys2Proof.Safety Sys2Proof.Claims

/-! ### Codes (R204) -/

theorem yesNo?_eq_some {n : Nat} {b : Bool} : yesNo? n = some b ↔ n = b.toNat := by
  unfold yesNo?
  split
  · cases b <;> simp
  · cases b <;> simp
  · cases b <;> simp <;> assumption

theorem feedback?_eq_some {n : Nat} {x : Feedback} : feedback? n = some x ↔ n = x.code := by
  unfold feedback?
  split
  · cases x <;> simp [Feedback.code]
  · cases x <;> simp [Feedback.code]
  · cases x <;> simp [Feedback.code] <;> assumption

theorem orphan?_eq_some {n : Nat} {x : OrphanAction} : orphan? n = some x ↔ n = x.code := by
  unfold orphan?
  split
  · cases x <;> simp [OrphanAction.code]
  · cases x <;> simp [OrphanAction.code]
  · cases x <;> simp [OrphanAction.code]
  · cases x <;> simp [OrphanAction.code] <;> assumption

theorem direction?_eq_some {n : Nat} {x : Direction} : direction? n = some x ↔ n = x.code := by
  unfold direction?
  split
  · cases x <;> simp [Direction.code]
  · cases x <;> simp [Direction.code]
  · cases x <;> simp [Direction.code] <;> assumption

theorem watchMode?_eq_some {n : Nat} {x : WatchMode} : watchMode? n = some x ↔ n = x.code := by
  unfold watchMode?
  split
  · cases x <;> simp [WatchMode.code]
  · cases x <;> simp [WatchMode.code]
  · cases x <;> simp [WatchMode.code]
  · cases x <;> simp [WatchMode.code] <;> assumption

theorem chan?_eq_some {n : Nat} {c : ChanIx} : chan? n = some c ↔ n = c.val := by
  unfold chan?
  split
  case isTrue lt => rw [Option.some.injEq, Fin.ext_iff]
  case isFalse ge => exact ⟨nofun, fun is => absurd (is ▸ c.isLt) ge⟩

/-! ### Bytes at an offset (R199) -/

theorem u8_lt (b : List Byte) (i : Nat) : u8 b i < 256 := (b.getD i 0).isLt

theorem u16_bound (b : List Byte) (i : Nat) : u16 b i < 65536 := by
  have low := u8_lt b i
  have high := u8_lt b (i + 1)
  unfold u16; omega

theorem s16_bounds (b : List Byte) (i : Nat) : -32768 ≤ s16 b i ∧ s16 b i ≤ 32767 := by
  have bound := u16_bound b i
  unfold s16
  split <;> omega

/-- A one-byte field holds what its byte says. -/
theorem byte_ofNat_eq {b : Byte} {n : Nat} (small : n < 256) : b = BitVec.ofNat 8 n ↔ b.toNat = n := by
  rw [← BitVec.toNat_inj, BitVec.toNat_ofNat, Nat.mod_eq_of_lt small]

section

variable {b rest : List Byte} {i : Nat}

theorem drop_eq_u8_byte (lt : i < b.length) : ∃ x : Byte, b.drop i = x :: b.drop (i + 1) ∧ u8 b i = x.toNat := by
  refine ⟨b[i], List.drop_eq_getElem_cons lt, ?_⟩
  rw [u8, List.getD_eq_getElem _ _ lt]

/-- What follows offset i begins with a one-byte field exactly where the field is read there. -/
theorem drop_eq_byte {n : Nat} (lt : i < b.length) (small : n < 256) :
    b.drop i = byte n ++ rest ↔ u8 b i = n ∧ b.drop (i + 1) = rest := by
  obtain ⟨x, here, read⟩ := drop_eq_u8_byte lt
  rw [here, read, byte, List.singleton_append, List.cons.injEq, byte_ofNat_eq small]

/-- So with a two-byte field, least significant byte first. -/
theorem drop_eq_le16 {n : Nat} (lt : i + 1 < b.length) (small : n < 65536) :
    b.drop i = le16 n ++ rest ↔ u16 b i = n ∧ b.drop (i + 2) = rest := by
  have split : le16 n = byte (n % 256) ++ byte (n / 256) := by
    have low : BitVec.ofNat 8 n = BitVec.ofNat 8 (n % 256) := BitVec.eq_of_toNat_eq (by simp)
    rw [le16, byte, byte, List.singleton_append, low]
  have low := u8_lt b i
  rw [split, List.append_assoc, drop_eq_byte (Nat.lt_of_succ_lt lt) (Nat.mod_lt n (by omega)), drop_eq_byte lt (by omega),
    ← and_assoc, u16]
  refine and_congr_left' ⟨fun ⟨lo, hi⟩ => by omega, fun sum => ⟨by omega, by omega⟩⟩

/-- So with a signed two-byte field, two's complement. -/
theorem drop_eq_sle16 {v : Int} (lt : i + 1 < b.length) (low : -32768 ≤ v) (high : v ≤ 32767) :
    b.drop i = sle16 v ++ rest ↔ s16 b i = v ∧ b.drop (i + 2) = rest := by
  have bound := u16_bound b i
  have word : (BitVec.ofInt 16 v).toNat = (v % 65536).toNat := by simp [BitVec.toNat_ofInt]
  rw [sle16, drop_eq_le16 lt (BitVec.isLt _), word, s16]
  refine and_congr_left' ?_
  split <;> omega

theorem tail_eq_drop_one : b.tail = b.drop 1 := List.drop_one.symm

end

end Sys2Proof.Proofs
end

section
/-! PROOFS. Each SET body against the bytes of a configuration within its ranges (O37). -/

namespace Sys2Proof.Proofs

open Sys2Proof.Machine Sys2Proof.Safety Sys2Proof.Claims

/-- An option that carries this value under a check. -/
theorem ite_some_iff {α : Type} {p : Prop} [Decidable p] {x y : α} : (if p then some x else none) = some y ↔ p ∧ x = y := by
  rw [Option.ite_none_right_eq_some, Option.some.injEq]

theorem bool_code_lt (x : Bool) : x.toNat < 256 := by cases x <;> decide

theorem feedback_code_lt (x : Feedback) : x.code < 256 := by cases x <;> decide

theorem orphan_code_lt (x : OrphanAction) : x.code < 256 := by cases x <;> decide

theorem direction_code_lt (x : Direction) : x.code < 256 := by cases x <;> decide

theorem watchMode_code_lt (x : WatchMode) : x.code < 256 := by cases x <;> decide

theorem chan_lt (c : ChanIx) : c.val < 256 := by omega

theorem vector4_toList {α : Type} (v : Vector α 4) : v.toList = [v[0], v[1], v[2], v[3]] :=
  List.ext_getElem (by simp) fun i lt _ => by
    have lt' : i < 4 := by simpa using lt
    interval_cases i <;> simp

theorem vector4_eta {α : Type} (v : Vector α 4) : #v[v[0], v[1], v[2], v[3]] = v :=
  Vector.toList_inj.mp (vector4_toList v).symm

/-! ### SET LOAD (R165) -/

/-- The fields of a SET LOAD body, by their offsets, are those of c. -/
abbrev LoadFields (b : List Byte) (c : LoadConfig) : Prop :=
  u8 b 1 = c.fitted.toNat ∧ u8 b 2 = c.priority ∧ u8 b 3 = c.settle ∧ u16 b 4 = c.inrush ∧ u16 b 6 = c.runLimit ∧
    u8 b 8 = c.confirm ∧ u8 b 9 = c.budget ∧ u8 b 10 = c.backoff ∧ u8 b 11 = c.feedback.code ∧ u8 b 12 = c.orphan.code ∧
    u8 b 13 = c.autostart.toNat

theorem loadConfig_ofBody {b : List Byte} {c : LoadConfig} : LoadConfig.ofBody b = some c ↔ LoadFields b c ∧ c.ok = true := by
  constructor
  · intro read
    unfold LoadConfig.ofBody at read
    split at read
    case h_1 fitted feedback orphan autostart =>
      obtain ⟨ok, rfl⟩ := ite_some_iff.mp read
      exact ⟨⟨yesNo?_eq_some.mp fitted, rfl, rfl, rfl, rfl, rfl, rfl, rfl, feedback?_eq_some.mp feedback,
        orphan?_eq_some.mp orphan, yesNo?_eq_some.mp autostart⟩, ok⟩
    case h_2 => cases read
  · rintro ⟨⟨fitted, priority, settle, inrush, runLimit, confirm, budget, backoff, feedback, orphan, autostart⟩, ok⟩
    rw [LoadConfig.ofBody, yesNo?_eq_some.mpr fitted, feedback?_eq_some.mpr feedback, orphan?_eq_some.mpr orphan,
      yesNo?_eq_some.mpr autostart, priority, settle, inrush, runLimit, confirm, budget, backoff]
    exact if_pos ok

theorem loadConfig_ok_iff {c : LoadConfig} : c.ok = true ↔
    c.priority ≤ 7 ∧ 1 ≤ c.settle ∧ c.settle ≤ 255 ∧ c.inrush ≤ 32767 ∧ c.runLimit ≤ 32767 ∧ 1 ≤ c.confirm ∧ c.confirm ≤ 8 ∧
      c.budget ≤ 15 ∧ 1 ≤ c.backoff ∧ c.backoff ≤ 255 := by
  simp only [LoadConfig.ok, Bool.and_eq_true, decide_eq_true_eq, and_assoc]

theorem loadBytes_iff {b : List Byte} {c : LoadConfig} (length : b.length = 14) (ok : c.ok = true) :
    b.tail = c.bytes ↔ LoadFields b c := by
  have ended : b.drop 14 = [] := List.drop_eq_nil_of_le (by omega)
  obtain ⟨priority, -, settle, inrush, runLimit, -, confirm, budget, -, backoff⟩ := loadConfig_ok_iff.mp ok
  rw [tail_eq_drop_one, ← List.append_nil c.bytes]
  simp only [LoadConfig.bytes, yesNoByte, List.append_assoc]
  rw [drop_eq_byte (by omega) (bool_code_lt _), drop_eq_byte (by omega) (by omega), drop_eq_byte (by omega) (by omega),
    drop_eq_le16 (by omega) (by omega), drop_eq_le16 (by omega) (by omega), drop_eq_byte (by omega) (by omega),
    drop_eq_byte (by omega) (by omega), drop_eq_byte (by omega) (by omega), drop_eq_byte (by omega) (feedback_code_lt _),
    drop_eq_byte (by omega) (orphan_code_lt _), drop_eq_byte (by omega) (bool_code_lt _),
    eq_true ended, and_true]

theorem setLoadBody_iff {b : List Byte} {c : LoadConfig} (length : b.length = 14) :
    LoadConfig.ofBody b = some c ↔ b.tail = c.bytes ∧ c.ok = true := by
  rw [loadConfig_ofBody]
  exact and_congr_left fun ok => (loadBytes_iff length ok).symm

/-! ### SET LADDER (R69, R168) -/

/-- The fields of a SET LADDER body, by their offsets, are those of c. -/
abbrev LadderFields (b : List Byte) (c : LadderConfig) : Prop :=
  u8 b 1 = c.enabled.toNat ∧ u8 b 2 = c.source.val ∧ u8 b 3 = c.direction.code ∧ u8 b 4 = c.top ∧ u8 b 5 = c.confirm ∧
    u8 b 6 = c.fault ∧ s16 b 7 = c.enter[0] ∧ s16 b 9 = c.enter[1] ∧ s16 b 11 = c.enter[2] ∧ s16 b 13 = c.enter[3] ∧
    s16 b 15 = c.exit[0] ∧ s16 b 17 = c.exit[1] ∧ s16 b 19 = c.exit[2] ∧ s16 b 21 = c.exit[3]

theorem ladderConfig_ofBody {b : List Byte} {c : LadderConfig} :
    LadderConfig.ofBody b = some c ↔ LadderFields b c ∧ c.ok = true := by
  constructor
  · intro read
    unfold LadderConfig.ofBody at read
    split at read
    case h_1 enabled source direction =>
      obtain ⟨ok, rfl⟩ := ite_some_iff.mp read
      exact ⟨⟨yesNo?_eq_some.mp enabled, chan?_eq_some.mp source, direction?_eq_some.mp direction, rfl, rfl, rfl, rfl, rfl,
        rfl, rfl, rfl, rfl, rfl, rfl⟩, ok⟩
    case h_2 => cases read
  · rintro ⟨⟨enabled, source, direction, top, confirm, fault, e1, e2, e3, e4, x1, x2, x3, x4⟩, ok⟩
    rw [LadderConfig.ofBody, yesNo?_eq_some.mpr enabled, chan?_eq_some.mpr source, direction?_eq_some.mpr direction, top,
      confirm, fault, e1, e2, e3, e4, x1, x2, x3, x4, vector4_eta, vector4_eta]
    exact if_pos ok

theorem limitOk_iff {v : Int} : limitOk v = true ↔ Limit v := by
  simp only [limitOk, Limit, Bool.and_eq_true, decide_eq_true_eq]

/-- Thresholds 1 to 4 are the four entries (R48). -/
theorem limits_iff {v : Vector Int 4} :
    v.toList.all limitOk = true ↔ ∀ k, 1 ≤ k → k ≤ 4 → Limit (v.toList.getD (k - 1) 0) := by
  simp only [List.all_eq_true, limitOk_iff]
  constructor
  · intro all k one le
    rw [List.getD_eq_getElem _ _ (by simp; omega)]
    exact all _ (List.getElem_mem _)
  · intro all x mem
    obtain ⟨i, lt, rfl⟩ := List.mem_iff_getElem.mp mem
    have lt' : i < 4 := by simpa using lt
    have here := all (i + 1) (by omega) (by omega)
    rwa [Nat.add_sub_cancel, List.getD_eq_getElem _ _ lt] at here

theorem limits_entries {v : Vector Int 4} (all : v.toList.all limitOk = true) :
    Limit v[0] ∧ Limit v[1] ∧ Limit v[2] ∧ Limit v[3] := by
  simpa only [vector4_toList, List.all_cons, List.all_nil, Bool.and_true, Bool.and_eq_true, limitOk_iff] using all

/-- The order checks of R69 between any two thresholds up to the top one. -/
theorem ordered_iff {c : LadderConfig} : c.ordered = true ↔
    (∀ j k, 1 ≤ j → j < k → k ≤ c.top → c.direction.better (c.enterAt j) (c.enterAt k) = true ∧
      c.direction.better (c.exitAt j) (c.exitAt k) = true) ∧
    ∀ k, 1 ≤ k → k ≤ c.top → c.direction.better (c.exitAt k) (c.enterAt k) = true := by
  simp only [LadderConfig.ordered, Bool.and_eq_true, List.all_eq_true, List.mem_range]
  constructor
  · rintro ⟨neighbours, pairs⟩
    have next : ∀ k, 1 ≤ k → k < c.top → c.direction.better (c.enterAt k) (c.enterAt (k + 1)) = true ∧
        c.direction.better (c.exitAt k) (c.exitAt (k + 1)) = true := fun k one lt => by
      obtain ⟨i, rfl⟩ : ∃ i, k = i + 1 := ⟨k - 1, by omega⟩
      exact neighbours i (by omega)
    refine ⟨fun j k one lt le => ⟨better_of_lt (fun k one lt => (next k one lt).1) one lt le,
      better_of_lt (fun k one lt => (next k one lt).2) one lt le⟩, fun k one le => ?_⟩
    obtain ⟨i, rfl⟩ : ∃ i, k = i + 1 := ⟨k - 1, by omega⟩
    exact pairs i le
  · rintro ⟨order, pairs⟩
    exact ⟨fun i lt => order (i + 1) (i + 2) (by omega) (by omega) (by omega),
      fun i lt => pairs (i + 1) (by omega) lt⟩

/-- The thresholds of both directions in the words of the claims (R69). -/
theorem ladderConfig_ok_iff {c : LadderConfig} : c.ok = true ↔
    1 ≤ c.top ∧ c.top ≤ 4 ∧ 1 ≤ c.confirm ∧ c.confirm ≤ 8 ∧ c.fault ≤ c.top ∧
      (∀ k, 1 ≤ k → k ≤ 4 → Limit (c.enterAt k) ∧ Limit (c.exitAt k)) ∧
      (c.direction = .rising →
        (∀ j k, 1 ≤ j → j < k → k ≤ c.top → c.enterAt j < c.enterAt k ∧ c.exitAt j < c.exitAt k) ∧
          ∀ k, 1 ≤ k → k ≤ c.top → c.exitAt k < c.enterAt k) ∧
      (c.direction = .falling →
        (∀ j k, 1 ≤ j → j < k → k ≤ c.top → c.enterAt k < c.enterAt j ∧ c.exitAt k < c.exitAt j) ∧
          ∀ k, 1 ≤ k → k ≤ c.top → c.enterAt k < c.exitAt k) := by
  have limits : (c.enter.toList.all limitOk = true ∧ c.exit.toList.all limitOk = true) ↔
      ∀ k, 1 ≤ k → k ≤ 4 → Limit (c.enterAt k) ∧ Limit (c.exitAt k) := by
    rw [limits_iff, limits_iff]
    exact ⟨fun ⟨enter, exit⟩ k one le => ⟨enter k one le, exit k one le⟩,
      fun both => ⟨fun k one le => (both k one le).1, fun k one le => (both k one le).2⟩⟩
  rw [← limits]
  simp only [LadderConfig.ok, Bool.and_eq_true, decide_eq_true_eq, and_assoc, ordered_iff]
  cases c.direction with
  | rising => simp only [better_rising, reduceCtorEq, forall_const, IsEmpty.forall_iff, and_true]
  | falling => simp only [better_falling, reduceCtorEq, forall_const, IsEmpty.forall_iff, true_and]

/-- A ladder's configuration as SET LADDER carries it (R168). -/
theorem ladderBytes_eq (c : LadderConfig) : ladderBytes c = c.bytes := by
  simp only [ladderBytes, LadderConfig.bytes, vector4_toList, List.flatMap_cons, List.flatMap_nil, List.append_nil,
    List.append_assoc]

theorem ladderBytes_iff {b : List Byte} {c : LadderConfig} (length : b.length = 23) (ok : c.ok = true) :
    b.tail = c.bytes ↔ LadderFields b c := by
  have ended : b.drop 23 = [] := List.drop_eq_nil_of_le (by omega)
  obtain ⟨-, top, -, confirm, fault, limits, -⟩ := ladderConfig_ok_iff.mp ok
  obtain ⟨e1, e2, e3, e4⟩ := limits_entries (limits_iff.mpr fun k one le => (limits k one le).1)
  obtain ⟨x1, x2, x3, x4⟩ := limits_entries (limits_iff.mpr fun k one le => (limits k one le).2)
  have threshold : ∀ {i : Nat} {v : Int} {rest : List Byte}, Limit v → i + 1 < 23 →
      (b.drop i = sle16 v ++ rest ↔ s16 b i = v ∧ b.drop (i + 2) = rest) := fun limit lt =>
    drop_eq_sle16 (by omega) (by omega) (by omega)
  rw [tail_eq_drop_one, ← ladderBytes_eq, ← List.append_nil (ladderBytes c)]
  simp only [ladderBytes, yesNoByte, List.append_assoc]
  rw [drop_eq_byte (by omega) (bool_code_lt _), drop_eq_byte (by omega) (chan_lt _),
    drop_eq_byte (by omega) (direction_code_lt _), drop_eq_byte (by omega) (by omega), drop_eq_byte (by omega) (by omega),
    drop_eq_byte (by omega) (by omega), threshold e1 (by omega), threshold e2 (by omega), threshold e3 (by omega),
    threshold e4 (by omega), threshold x1 (by omega), threshold x2 (by omega), threshold x3 (by omega),
    threshold x4 (by omega), eq_true ended, and_true]

theorem setLadderBody_iff {b : List Byte} {c : LadderConfig} (length : b.length = 23) :
    LadderConfig.ofBody b = some c ↔ b.tail = c.bytes ∧ c.ok = true := by
  rw [ladderConfig_ofBody]
  exact and_congr_left fun ok => (ladderBytes_iff length ok).symm

/-! ### SET WATCH (R99, R174) -/

/-- The fields of a SET WATCH body, by their offsets, are those of c. -/
abbrev WatchFields (b : List Byte) (c : WatchConfig) : Prop :=
  u8 b 1 = c.mode.code ∧ u8 b 2 = c.channel.val ∧ s16 b 3 = c.low ∧ s16 b 5 = c.high ∧ u16 b 7 = c.hysteresis

theorem watchConfig_ofBody {b : List Byte} {c : WatchConfig} :
    WatchConfig.ofBody b = some c ↔ WatchFields b c ∧ c.ok = true := by
  constructor
  · intro read
    unfold WatchConfig.ofBody at read
    split at read
    case h_1 mode channel =>
      obtain ⟨ok, rfl⟩ := ite_some_iff.mp read
      exact ⟨⟨watchMode?_eq_some.mp mode, chan?_eq_some.mp channel, rfl, rfl, rfl⟩, ok⟩
    case h_2 => cases read
  · rintro ⟨⟨mode, channel, low, high, hysteresis⟩, ok⟩
    rw [WatchConfig.ofBody, watchMode?_eq_some.mpr mode, chan?_eq_some.mpr channel, low, high, hysteresis]
    exact if_pos ok

theorem watchConfig_ok_iff {c : WatchConfig} : c.ok = true ↔
    Limit c.low ∧ Limit c.high ∧ c.low < c.high ∧ c.hysteresis ≤ 32767 ∧ (c.hysteresis : Int) < c.high - c.low := by
  simp only [WatchConfig.ok, Bool.and_eq_true, limitOk_iff, decide_eq_true_eq, and_assoc]

theorem watchBytes_iff {b : List Byte} {c : WatchConfig} (length : b.length = 9) (ok : c.ok = true) :
    b.tail = watchBytes c ↔ WatchFields b c := by
  have ended : b.drop 9 = [] := List.drop_eq_nil_of_le (by omega)
  obtain ⟨low, high, -, hysteresis, -⟩ := watchConfig_ok_iff.mp ok
  rw [tail_eq_drop_one, ← List.append_nil (watchBytes c)]
  simp only [watchBytes, List.append_assoc]
  rw [drop_eq_byte (by omega) (watchMode_code_lt _), drop_eq_byte (by omega) (chan_lt _),
    drop_eq_sle16 (by omega) (by omega) (by omega), drop_eq_sle16 (by omega) (by omega) (by omega),
    drop_eq_le16 (by omega) (by omega), eq_true ended, and_true]

theorem setWatchBody_iff {b : List Byte} {c : WatchConfig} (length : b.length = 9) :
    WatchConfig.ofBody b = some c ↔ b.tail = watchBytes c ∧ c.ok = true := by
  rw [watchConfig_ofBody]
  exact and_congr_left fun ok => (watchBytes_iff length ok).symm

/-! ### SET CHANNEL (R73, R172) -/

theorem channelConfig_ofBody {b : List Byte} {c : ChannelConfig} : ChannelConfig.ofBody b = some c ↔
    u16 b 1 = c.gain ∧ s16 b 3 = c.offset ∧ u8 b 5 = c.faultDetect.toNat := by
  constructor
  · intro read
    unfold ChannelConfig.ofBody at read
    split at read
    case h_1 faultDetect =>
      obtain rfl := Option.some.inj read
      exact ⟨rfl, rfl, yesNo?_eq_some.mp faultDetect⟩
    case h_2 => cases read
  · rintro ⟨gain, offset, faultDetect⟩
    rw [ChannelConfig.ofBody, yesNo?_eq_some.mpr faultDetect, gain, offset]

theorem channelConfig_ok_iff {c : ChannelConfig} : c.ok = true ↔ c.gain ≤ 65535 ∧ -32768 ≤ c.offset ∧ c.offset ≤ 32767 := by
  simp only [ChannelConfig.ok, Bool.and_eq_true, decide_eq_true_eq, and_assoc]

/-- Every two-byte gain and offset is in range (R73). -/
theorem channelConfig_ranges {b : List Byte} {c : ChannelConfig} (read : ChannelConfig.ofBody b = some c) :
    c.gain ≤ 65535 ∧ -32768 ≤ c.offset ∧ c.offset ≤ 32767 := by
  obtain ⟨gain, offset, -⟩ := channelConfig_ofBody.mp read
  have bound := u16_bound b 1
  rw [gain] at bound
  exact ⟨by omega, offset ▸ s16_bounds b 3⟩

theorem channelBytes_iff {b : List Byte} {c : ChannelConfig} (length : b.length = 6) (gain : c.gain ≤ 65535)
    (low : -32768 ≤ c.offset) (high : c.offset ≤ 32767) : b.tail = channelBytes c ↔ ChannelConfig.ofBody b = some c := by
  have ended : b.drop 6 = [] := List.drop_eq_nil_of_le (by omega)
  rw [channelConfig_ofBody, tail_eq_drop_one, ← List.append_nil (channelBytes c)]
  simp only [channelBytes, yesNoByte, List.append_assoc]
  rw [drop_eq_le16 (by omega) (by omega), drop_eq_sle16 (by omega) low high, drop_eq_byte (by omega) (bool_code_lt _),
    eq_true ended, and_true]

theorem setChannelBody_iff {b : List Byte} {c : ChannelConfig} (length : b.length = 6) :
    ChannelConfig.ofBody b = some c ↔ b.tail = channelBytes c ∧ c.gain ≤ 65535 ∧ -32768 ≤ c.offset ∧ c.offset ≤ 32767 := by
  constructor
  · intro read
    have ⟨gain, low, high⟩ := channelConfig_ranges read
    exact ⟨(channelBytes_iff length gain low high).mpr read, gain, low, high⟩
  · rintro ⟨carried, gain, low, high⟩
    exact (channelBytes_iff length gain low high).mp carried

/-! ### SET CUTOFF (R64, R169) -/

theorem cutoff_ofBody {b : List Byte} {t : Vector Nat 4} : cutoffOfBody b = some t ↔
    #v[u8 b 0, u8 b 1, u8 b 2, u8 b 3] = t ∧ cutoffOk t = true := by
  unfold cutoffOfBody
  rw [ite_some_iff]
  exact ⟨fun ⟨ok, is⟩ => ⟨is, is ▸ ok⟩, fun ⟨is, ok⟩ => ⟨is ▸ ok, is⟩⟩

/-! ### SET GLOBALS (R177) -/

/-- The fields of a SET GLOBALS body, by their offsets, are those of g. -/
abbrev GlobalsFields (b : List Byte) (g : Globals) : Prop :=
  u8 b 0 = g.cleanRun ∧ u8 b 1 = g.startGap ∧ u8 b 2 = g.startCeiling ∧ u16 b 3 = g.restoreHold ∧
    u8 b 5 = g.silenceTimeout ∧ u8 b 6 = g.shedInputLevel

theorem globals_ofBody {b : List Byte} {g : Globals} : Globals.ofBody b = some g ↔ GlobalsFields b g ∧ g.ok = true := by
  constructor
  · intro read
    obtain ⟨ok, rfl⟩ := ite_some_iff.mp read
    exact ⟨⟨rfl, rfl, rfl, rfl, rfl, rfl⟩, ok⟩
  · rintro ⟨⟨cleanRun, startGap, startCeiling, restoreHold, silenceTimeout, shedInputLevel⟩, ok⟩
    rw [Globals.ofBody, cleanRun, startGap, startCeiling, restoreHold, silenceTimeout, shedInputLevel]
    exact if_pos ok

theorem globals_ok_iff {g : Globals} : g.ok = true ↔
    1 ≤ g.cleanRun ∧ g.cleanRun ≤ 255 ∧ g.startGap ≤ 255 ∧ g.startCeiling ≤ 4 ∧ 1 ≤ g.restoreHold ∧ g.restoreHold ≤ 600 ∧
      g.silenceTimeout ≤ 255 ∧ g.shedInputLevel ≤ 4 := by
  simp only [Globals.ok, Bool.and_eq_true, decide_eq_true_eq, and_assoc]

theorem setGlobalsBody_iff {b : List Byte} {g : Globals} (length : b.length = 7) :
    Globals.ofBody b = some g ↔ b = globalsBytes g ∧ g.ok = true := by
  have ended : b.drop 7 = [] := List.drop_eq_nil_of_le (by omega)
  rw [globals_ofBody]
  refine and_congr_left fun ok => Iff.symm ?_
  obtain ⟨-, cleanRun, startGap, startCeiling, -, restoreHold, silenceTimeout, shedInputLevel⟩ := globals_ok_iff.mp ok
  have start : b = globalsBytes g ↔ b.drop 0 = globalsBytes g ++ [] := by rw [List.drop_zero, List.append_nil]
  rw [start]
  simp only [globalsBytes, List.append_assoc]
  rw [drop_eq_byte (by omega) (by omega), drop_eq_byte (by omega) (by omega), drop_eq_byte (by omega) (by omega),
    drop_eq_le16 (by omega) (by omega), drop_eq_byte (by omega) (by omega), drop_eq_byte (by omega) (by omega),
    eq_true ended, and_true]

/-! ### SET SCAN (R85, R171) -/

/-- The channel numbers of a list of bytes are those whose bytes they are. -/
theorem chanList?_eq_some : ∀ {b : List Byte} {list : List ChanIx},
    chanList? b = some list ↔ b = list.flatMap fun c => byte c.val
  | [], [] => by simp [chanList?]
  | [], c :: list => by simp [chanList?, byte]
  | x :: b, [] => by
    simp only [chanList?, List.flatMap_nil, reduceCtorEq, iff_false]
    split <;> simp
  | x :: b, c :: list => by
    rw [List.flatMap_cons, byte, List.singleton_append, List.cons.injEq, byte_ofNat_eq (chan_lt c), ← chan?_eq_some,
      ← chanList?_eq_some, chanList?]
    cases chan? x.toNat <;> cases chanList? b <;> simp

theorem scanOk_iff {list : List ChanIx} {pause : Nat} :
    scanOk list pause = true ↔ 1 ≤ list.length ∧ list.length ≤ 32 ∧ pause ≤ 250 := by
  simp only [scanOk, Bool.and_eq_true, decide_eq_true_eq, and_assoc]

theorem scanOfBody_eq_some {b : List Byte} {list : List ChanIx} {pause : Nat} : scanOfBody b = some (list, pause) ↔
    (u8 b 1 = pause ∧ chanList? (b.drop 2) = some list) ∧ scanOk list pause = true := by
  unfold scanOfBody
  split
  case h_1 found numbers =>
    rw [ite_some_iff, Prod.mk.injEq, numbers, Option.some.injEq]
    constructor
    · rintro ⟨ok, rfl, rfl⟩; exact ⟨⟨rfl, rfl⟩, ok⟩
    · rintro ⟨⟨rfl, rfl⟩, ok⟩; exact ⟨ok, rfl, rfl⟩
  case h_2 none => rw [none]; simp

theorem setScanBody_iff {b : List Byte} {list : List ChanIx} {pause : Nat} (length : 2 ≤ b.length) :
    scanOfBody b = some (list, pause) ↔ b.tail = scanBytes list pause ∧ scanOk list pause = true := by
  rw [scanOfBody_eq_some]
  refine and_congr_left fun ok => Iff.symm ?_
  obtain ⟨-, -, short⟩ := scanOk_iff.mp ok
  rw [tail_eq_drop_one, scanBytes, drop_eq_byte (by omega) (by omega), chanList?_eq_some]

/-- Settles O37: every field is read where it was written, and the checks are those of the rules. -/
theorem setBodiesCarryTheirConfigurations : Obligations.SetBodiesCarryTheirConfigurations := by
  refine ⟨fun b c length => ?_, fun b c length => ?_, fun b c length => ?_, fun b c length => setChannelBody_iff length,
    fun b g length => ?_, fun b list pause atLeast _ => ?_⟩
  · rw [setLoadBody_iff length, loadConfig_ok_iff]
  · rw [setLadderBody_iff length, ladderConfig_ok_iff]
  · rw [setWatchBody_iff length, watchConfig_ok_iff]
  · rw [setGlobalsBody_iff length, globals_ok_iff]
  · rw [setScanBody_iff atLeast, scanOk_iff]

end Sys2Proof.Proofs
end

section
/-! PROOFS. What a command can do to the configuration, the profile store, the scanner and the watches, said once for all rows
of the table: each is a sequence of a few moves. -/

namespace Sys2Proof.Proofs

open Sys2Proof.Machine Sys2Proof.Safety Sys2Proof.Claims

/-! ### States that agree -/

/-- The same configuration, profile store and watches in the same phase, and the same scanner but for the readings that it has
handed on. -/
structure SameScene (s t : State) : Prop where
  ws : t.ws = s.ws
  phase : t.phase = s.phase
  prof : t.prof = s.prof
  watches : t.watches = s.watches
  state : t.scan.state = s.scan.state
  cursor : t.scan.cursor = s.scan.cursor
  pause : t.scan.pause = s.scan.pause
  records : t.scan.records = s.scan.records
  primed : t.scan.primed = s.scan.primed

theorem SameScene.of_scan {s t : State} (ws : t.ws = s.ws) (phase : t.phase = s.phase) (prof : t.prof = s.prof)
    (watches : t.watches = s.watches) (scan : t.scan = s.scan) : SameScene s t :=
  ⟨ws, phase, prof, watches, by rw [scan], by rw [scan], by rw [scan], by rw [scan], by rw [scan]⟩

/-! ### The moves -/

/-- The part at the end of start-up as far as its configuration, profile store, scanner and watches go (R192, R193, R195). -/
def startedScene (s : State) : State :=
  { s.selectProfile with
    phase := .running, scan := s.selectProfile.scan.begin s.selectProfile.ws.scanList 0 }

/-- The scanner, the watches and the save hold their reset values (R74, R76, R84, R90, R184). -/
structure SceneAtReset (s : State) : Prop where
  scan : s.scan = Scanner.reset
  watches : s.watches = Vector.replicate 16 WatchRec.reset
  save : s.prof.save = none

/-- One change of the configuration, the profile store, the scanner or the watches, under the checks that the part makes. -/
inductive Move : State → State → Prop where
  | same {s t : State} (same : SameScene s t) : Move s t
  | elapse (d : Nat) (s : State) : Move s (s.elapse d)
  | reset {phase : Phase} (cause : ResetCause) (s : State) (stops : phase ≠ .running) : Move s (s.takeReset phase cause)
  | sampled (straps : Straps) (s : State) : Move s (s.beginStartup straps)
  | started {s : State} (rest : SceneAtReset s) : Move s (startedScene s)
  | configured {w : WorkingSet} {s : State} (lawful : WorkingSetOk s.ws → WorkingSetOk w)
      (list : w.scanList = s.ws.scanList) (watches : w.watches = s.ws.watches) : Move s (reconfigured w s)
  | watchSet {w : WatchIx} {c : WatchConfig} {s : State} (ok : c.ok = true)
      (scanned : c.mode ≠ .off → c.channel ∈ s.ws.scanList) : Move s (s.configureWatch w c)
  | scanSet {list : List ChanIx} {pause : Nat} {s : State} (ok : scanOk list pause = true) (kept : BoundKept list s) :
      Move s { reconfigured { s.ws with scanList := list, cyclePause := pause } s with
        scan := (s.scan.restart list).checkPriming list }
  | unlatched (w : WatchIx) (s : State) : Move s (s.unlatch w)
  | watchTook {w : WatchIx} {s : State} (reading : Reading) (active : s.ws.watches[w].mode ≠ .off) :
      Move s (s.evaluateWatch w reading)
  | converted {ch : ChanIx} {restart : Bool} {s : State} (raw : Nat) (converts : s.scan.state = .converting ch restart) :
      Move s (s.readingArrives ch restart raw)
  | pauseOver (s : State) : Move s s.pauseExpires
  | saveBegun {s : State} (free : s.prof.save = none) : Move s s.beginSave
  | saveEnded {v : Save} {s : State} (verified : Bool) (flight : ∃ timer, s.prof.save = some { v with timer := timer }) :
      Move s (s.endSave v verified)

/-- One move after another. -/
abbrev Moves : State → State → Prop := Relation.ReflTransGen Move

theorem Move.moves {s t : State} (h : Move s t) : Moves s t := .single h

theorem moves_same {s t : State} (ws : t.ws = s.ws) (phase : t.phase = s.phase) (prof : t.prof = s.prof)
    (watches : t.watches = s.watches) (scan : t.scan = s.scan) : Moves s t :=
  Move.moves (.same (.of_scan ws phase prof watches scan))

/-- What every move keeps, moves keep. -/
theorem Moves.keeps {P : State → Prop} (keeps : ∀ {s t}, Move s t → P s → P t) {s t : State} (h : Moves s t) (ok : P s) :
    P t := by
  induction h with
  | refl => exact ok
  | tail _ move ih => exact keeps move ih

section

variable (s : State)

theorem moves_kick : Moves s s.kick := moves_same (by simp) (by simp) (by simp) (by simp) (by simp)

theorem moves_takeGrant : Moves s s.takeGrant := moves_same (by simp) (by simp) (by simp) (by simp) (by simp)

theorem moves_considerGrant : Moves s s.considerGrant :=
  moves_same (by simp) (by simp) (by simp) (by simp) (by simp)

theorem moves_formDepth : Moves s s.formDepth := moves_same (by simp) (by simp) (by simp) (by simp) (by simp)

theorem moves_offerBeforeReply : Moves s s.offerBeforeReply :=
  moves_same (by simp) (by simp) (by simp) (by simp) (by simp)

end

/-- The transmitter's choice after moves. -/
theorem moves_then_kick {s t : State} (h : Moves s t) : Moves s t.kick := h.trans (moves_kick t)

/-! ### Requests and expiries -/

theorem moves_executeRequest {own : List Byte → State → Answer} (moves : ∀ b u, Moves u (own b u).state) (offers : Bool)
    (f : Frame) (s : State) : Moves s (s.executeRequest offers f own) := by
  have offered : Moves s (if offers then (own f.body s).state.offerBeforeReply else (own f.body s).state) := by
    cases offers
    exacts [moves f.body s, (moves f.body s).trans (moves_offerBeforeReply _)]
  unfold State.executeRequest
  exact moves_then_kick (offered.trans (moves_same rfl rfl rfl rfl rfl))

/-- A request moves the part as its owner's answer does. -/
theorem moves_takeRequest {own : List Byte → State → Answer} (moves : ∀ b u, Moves u (own b u).state) (offers : Bool)
    (kind : Byte) (s : State) : Moves s (s.takeRequest offers kind own) := by
  refine (moves_takeGrant s).trans ?_
  have dropped : Moves s.takeGrant s.takeGrant.dropInbound := moves_same rfl rfl rfl rfl rfl
  have replied : ∀ frame, Moves s.takeGrant (s.takeGrant.dropInbound.queueReply frame false).kick := fun frame =>
    moves_then_kick (dropped.trans (moves_same rfl rfl rfl rfl rfl))
  rw [State.takeRequest_after_grant]
  obtain ⟨-, eq⟩ | ⟨f, -, ⟨-, eq⟩ | ⟨-, e, -, eq⟩ | ⟨-, -, eq⟩⟩ :=
    State.takeRequest_cases offers kind own s.takeGrant_grantDue
  · rw [eq]
  · rw [eq]; exact replied _
  · rw [eq]; exact replied _
  · rw [eq]; exact dropped.trans (moves_executeRequest moves offers f _)

/-- The moment of an expiry comes by time alone (R1). -/
theorem moves_reachExpiry (left : Nat) (s : State) : Moves s (s.reachExpiry left) := by
  obtain eq | ⟨-, eq⟩ := s.reachExpiry_cases left <;> rw [eq]
  exacts [(Move.elapse left s).moves.trans (moves_same rfl rfl rfl rfl rfl),
    (Move.elapse (left + 1) s).moves.trans (moves_same rfl rfl rfl rfl rfl)]

/-- An expiry moves the part as its event does at its moment. -/
theorem moves_whenDue {event : State → State} {s : State} (t : Timer)
    (moves : ∀ left, Moves (s.reachExpiry left) (event (s.reachExpiry left))) : Moves s (s.whenDue t event) := by
  obtain ⟨-, eq⟩ | ⟨-, -, eq⟩ := s.whenDue_cases t event
  · rw [eq]
  · rw [eq]; exact moves_then_kick ((moves_reachExpiry _ s).trans (moves _))

/-- As for an expiry after a grant that is due, of a load or a block that may be in another state. -/
theorem moves_expiry {event : State → State} (moves : ∀ u, Moves u (event u)) (t : Timer) (s : State) (p : Prop) [Decidable p] :
    Moves s (if p then s.takeGrant.whenDue t event else s.takeGrant) := by
  refine (moves_takeGrant s).trans ?_
  split
  exacts [moves_whenDue t fun _ => moves _, .refl]

end Sys2Proof.Proofs
end

section
/-! PROOFS. Each row of the table as moves of the configuration, the profile store, the scanner and the watches. -/

namespace Sys2Proof.Proofs

open Sys2Proof.Machine Sys2Proof.Safety Sys2Proof.Claims

/-! ### Lawful fields (R73, R183) -/

/-- Every field of a working set within the range its request accepts, block by block (R183). -/
structure FieldsOk (w : WorkingSet) : Prop where
  loads : ∀ n : LoadIx, w.loads[n].ok = true
  ladders : ∀ k : LadderIx, w.ladders[k].ok = true
  cutoff : cutoffOk w.cutoff = true
  watches : ∀ i : WatchIx, w.watches[i].ok = true
  scan : scanOk w.scanList w.cyclePause = true
  channels : ∀ c : ChanIx, w.channels[c].ok = true
  globals : w.globals.ok = true

theorem vector_all {α : Type} {n : Nat} (v : Vector α n) (p : α → Bool) :
    v.toList.all p = true ↔ ∀ k : Fin n, p v[k] = true := by
  rw [List.all_eq_true]
  constructor
  · exact fun all k => all _ (by simp)
  · intro all x mem
    obtain ⟨i, lt, rfl⟩ := List.mem_iff_getElem.mp mem
    have lt' : i < n := by simpa using lt
    simpa using all ⟨i, lt'⟩

theorem fieldsOk_iff {w : WorkingSet} : w.ok = true ↔ FieldsOk w := by
  simp only [WorkingSet.ok, Bool.and_eq_true, vector_all, and_assoc]
  exact ⟨fun ⟨loads, ladders, cutoff, watches, scan, channels, globals⟩ =>
      ⟨loads, ladders, cutoff, watches, scan, channels, globals⟩,
    fun ⟨loads, ladders, cutoff, watches, scan, channels, globals⟩ =>
      ⟨loads, ladders, cutoff, watches, scan, channels, globals⟩⟩

/-- An entry replaced by a lawful one. -/
theorem forall_set {α : Type} {n : Nat} (p : α → Prop) {v : Vector α n} {k : Fin n} {x : α} (all : ∀ j : Fin n, p v[j])
    (here : p x) (j : Fin n) : p (v.set k x)[j] := by
  by_cases same : j = k
  · rw [same, vector_set_self]; exact here
  · rw [vector_set_other same]; exact all j

/-! ### A working set with one part replaced (R83, R183) -/

section

variable {w : WorkingSet} (h : WorkingSetOk w)
include h

theorem workingSetOk_setLoad {c : LoadConfig} (n : LoadIx) (ok : c.ok = true) :
    WorkingSetOk { w with loads := w.loads.set n c } := by
  obtain ⟨fields, scanned⟩ := h
  rw [fieldsOk_iff] at fields
  exact ⟨fieldsOk_iff.mpr { fields with loads := forall_set (LoadConfig.ok · = true) fields.loads ok }, scanned⟩

theorem workingSetOk_setLadder {c : LadderConfig} (k : LadderIx) (ok : c.ok = true)
    (listed : c.enabled = true → c.source ∈ w.scanList) : WorkingSetOk { w with ladders := w.ladders.set k c } := by
  obtain ⟨fields, ladders, watches⟩ := h
  rw [fieldsOk_iff] at fields
  exact ⟨fieldsOk_iff.mpr { fields with ladders := forall_set (LadderConfig.ok · = true) fields.ladders ok },
    forall_set (fun x : LadderConfig => x.enabled = true → x.source ∈ w.scanList) ladders listed, watches⟩

theorem workingSetOk_setCutoff {t : Vector Nat 4} (ok : cutoffOk t = true) : WorkingSetOk { w with cutoff := t } := by
  obtain ⟨fields, scanned⟩ := h
  rw [fieldsOk_iff] at fields
  exact ⟨fieldsOk_iff.mpr { fields with cutoff := ok }, scanned⟩

theorem workingSetOk_setWatch {c : WatchConfig} (i : WatchIx) (ok : c.ok = true)
    (listed : c.mode ≠ .off → c.channel ∈ w.scanList) : WorkingSetOk { w with watches := w.watches.set i c } := by
  obtain ⟨fields, ladders, watches⟩ := h
  rw [fieldsOk_iff] at fields
  exact ⟨fieldsOk_iff.mpr { fields with watches := forall_set (WatchConfig.ok · = true) fields.watches ok },
    ladders, forall_set (fun x : WatchConfig => x.mode ≠ .off → x.channel ∈ w.scanList) watches listed⟩

theorem workingSetOk_setScan {list : List ChanIx} {pause : Nat} (ok : scanOk list pause = true)
    (scanned : ChannelsScanned { w with scanList := list }) : WorkingSetOk { w with scanList := list, cyclePause := pause } := by
  obtain ⟨fields, -⟩ := h
  rw [fieldsOk_iff] at fields
  exact ⟨fieldsOk_iff.mpr { fields with scan := ok }, scanned⟩

theorem workingSetOk_setChannel {c : ChannelConfig} (ch : ChanIx) (ok : c.ok = true) :
    WorkingSetOk { w with channels := w.channels.set ch c } := by
  obtain ⟨fields, scanned⟩ := h
  rw [fieldsOk_iff] at fields
  exact ⟨fieldsOk_iff.mpr { fields with channels := forall_set (ChannelConfig.ok · = true) fields.channels ok }, scanned⟩

theorem workingSetOk_setGlobals {g : Globals} (ok : g.ok = true) : WorkingSetOk { w with globals := g } := by
  obtain ⟨fields, scanned⟩ := h
  rw [fieldsOk_iff] at fields
  exact ⟨fieldsOk_iff.mpr { fields with globals := ok }, scanned⟩

end

/-! ### What the owners of the requests answer -/

section

variable (b : List Byte) (s : State)

/-- An answer that leaves the scene as it is. -/
theorem moves_answerHello : Moves s (answerHello b s).state := by
  unfold answerHello
  split <;> exact moves_same rfl rfl rfl rfl rfl

theorem moves_answerGrant : Moves s (answerGrant b s).state := by
  unfold answerGrant
  repeat' split
  all_goals exact moves_same rfl rfl rfl rfl rfl

theorem moves_answerAck : Moves s (answerAck b s).state := by
  unfold answerAck
  repeat' split
  all_goals exact moves_same rfl rfl rfl rfl rfl

theorem moves_answerResend : Moves s (answerResend b s).state := by
  unfold answerResend
  split <;> exact moves_same rfl rfl rfl rfl rfl

theorem moves_answerSnapshot : Moves s (answerSnapshot b s).state := by
  unfold answerSnapshot
  split <;> exact moves_same rfl rfl rfl rfl rfl

theorem moves_answerDemand : Moves s (answerDemand b s).state := by
  have reply : ∀ st accepted refused u, Moves u (demandReply st accepted refused u).state := fun _ _ _ => moves_considerGrant
  have demanded : ∀ ns, Moves s (s.eachLoad ns (State.demandOn .demand)) := fun ns =>
    moves_same (by simp) (by simp) (by simp) (by simp) (by simp)
  have undemanded : ∀ ns, Moves s (s.eachLoad ns (State.demandOff .demand)) := fun ns =>
    moves_same (by simp) (by simp) (by simp) (by simp) (by simp)
  have demandOn : ∀ ns, Moves s (answerDemandOn ns s).state := fun ns => by
    unfold answerDemandOn
    dsimp only
    split
    exacts [.refl, (demanded _).trans (reply _ _ _ _)]
  unfold answerDemand
  split
  · exact .refl
  · split
    case h_1 => exact .refl
    case h_2 =>
      split
      · exact .refl
      · split
        · exact .refl
        · split
          exacts [demandOn _, (undemanded _).trans (reply _ _ _ _)]

theorem moves_answerClear : Moves s (answerClear b s).state := by
  unfold answerClear
  repeat' split
  all_goals exact moves_same rfl rfl rfl rfl rfl

theorem moves_answerReadLoad : Moves s (answerReadLoad b s).state := by
  unfold answerReadLoad
  repeat' split
  all_goals exact .refl

theorem moves_answerForceLevel : Moves s (answerForceLevel b s).state := by
  unfold answerForceLevel
  repeat' split
  all_goals exact moves_same (by simp) (by simp) (by simp) (by simp) (by simp)

theorem moves_answerReadSeverity : Moves s (answerReadSeverity b s).state := by
  unfold answerReadSeverity
  repeat' split
  all_goals exact .refl

theorem moves_answerReadChannels : Moves s (answerReadChannels b s).state := by
  unfold answerReadChannels
  repeat' split
  all_goals exact .refl

theorem moves_answerReadWatch : Moves s (answerReadWatch b s).state := by
  unfold answerReadWatch
  repeat' split
  all_goals exact .refl

theorem moves_answerReadSystem : Moves s (answerReadSystem b s).state := by
  unfold answerReadSystem
  split <;> exact .refl

theorem moves_answerReadLink : Moves s (answerReadLink b s).state := by
  unfold answerReadLink
  repeat' split
  all_goals exact moves_same rfl rfl rfl rfl rfl

theorem moves_answerReset : Moves s (answerReset b s).state := by
  unfold answerReset
  split <;> exact moves_same rfl rfl rfl rfl rfl

theorem moves_answerAckWatch : Moves s (answerAckWatch b s).state := by
  unfold answerAckWatch
  split
  · exact .refl
  · split
    case h_1 => exact .refl
    case h_2 w _ =>
      split
      exacts [(Move.unlatched w s).moves, .refl]

theorem moves_answerSave : Moves s (answerSave b s).state := by
  unfold answerSave
  split
  · exact .refl
  · split
    case isTrue => exact .refl
    case isFalse free => exact (Move.saveBegun (Option.not_isSome_iff_eq_none.mp free)).moves

theorem moves_answerSetLoad : Moves s (answerSetLoad b s).state := by
  unfold answerSetLoad
  split
  · exact .refl
  · split
    case h_1 n c _ body =>
      split
      · exact (Move.configured (fun h => workingSetOk_setLoad h n (loadConfig_ofBody.mp body).2) rfl rfl).moves.trans
          (moves_same rfl rfl rfl rfl rfl)
      · exact .refl
    all_goals exact .refl

/-- A ladder's configuration replaced moves no more than that (R70, R83). -/
theorem moves_configureLadder (k : LadderIx) (c : LadderConfig) :
    Moves (reconfigured { s.ws with ladders := s.ws.ladders.set k c } s) (s.configureLadder k c) := by
  have reset : ∀ old u, Moves u (State.resetLadder k old c u) := fun old u =>
    moves_same (by simp) (by simp) (by simp) (by simp) (by simp)
  unfold State.configureLadder
  refine .trans (.trans (.trans (Move.moves (.same ?_)) (reset _ _)) (moves_formDepth _)) (moves_considerGrant _)
  refine ⟨rfl, rfl, rfl, rfl, ?_, ?_, ?_, ?_, ?_⟩ <;> simp only [State.setDirty_scan] <;> split <;> rfl

theorem moves_answerSetLadder : Moves s (answerSetLadder b s).state := by
  unfold answerSetLadder
  split
  · exact .refl
  · split
    case h_1 k c _ body =>
      split
      · exact .refl
      · rename_i listed
        have scanned : c.enabled = true → c.source ∈ s.ws.scanList := by simpa using listed
        have ok := (ladderConfig_ofBody.mp body).2
        exact (Move.configured (fun h => workingSetOk_setLadder h k ok scanned) rfl rfl).moves.trans
          (moves_configureLadder s k c)
    all_goals exact .refl

/-- Nor does a cutoff table (R65). -/
theorem moves_configureCutoff (table : Vector Nat 4) :
    Moves (reconfigured { s.ws with cutoff := table } s) (s.configureCutoff table) := by
  have shed : ∀ ns, Moves (withCutoff table s) ((withCutoff table s).eachLoad ns State.shedLoad) := fun ns =>
    moves_same (by simp) (by simp) (by simp) (by simp) (by simp)
  unfold State.configureCutoff
  dsimp only
  refine .trans ?_ (moves_considerGrant _)
  split
  exacts [(shed _).trans (moves_same rfl rfl rfl rfl rfl), shed _]

theorem moves_answerSetCutoff : Moves s (answerSetCutoff b s).state := by
  unfold answerSetCutoff
  split
  · exact .refl
  · split
    case h_1 => exact .refl
    case h_2 table body =>
      exact (Move.configured (fun h => workingSetOk_setCutoff h (cutoff_ofBody.mp body).2) rfl rfl).moves.trans
        (moves_configureCutoff s table)

theorem moves_answerSetScan : Moves s (answerSetScan b s).state := by
  unfold answerSetScan
  split
  · exact .refl
  · split
    case h_1 => exact .refl
    case h_2 list pause body =>
      split
      case isTrue kept =>
        exact (Move.scanSet (scanOfBody_eq_some.mp body).2 (keepsBound_iff.mp kept)).moves.trans (moves_considerGrant _)
      case isFalse => exact .refl

theorem moves_answerSetChannel : Moves s (answerSetChannel b s).state := by
  unfold answerSetChannel
  split
  · exact .refl
  · split
    case h_1 ch c _ body =>
      have ok := channelConfig_ok_iff.mpr (channelConfig_ranges body)
      exact (Move.configured (fun h => workingSetOk_setChannel h ch ok) rfl rfl).moves
    all_goals exact .refl

theorem moves_answerSetWatch : Moves s (answerSetWatch b s).state := by
  unfold answerSetWatch
  split
  · exact .refl
  · split
    case h_1 w c _ body =>
      split
      case isTrue listed =>
        refine (Move.watchSet (watchConfig_ofBody.mp body).2 fun active => ?_).moves
        exact List.contains_iff_mem.mp (listed.resolve_left active)
      case isFalse => exact .refl
    all_goals exact .refl

theorem moves_retimeSilence : Moves s s.retimeSilence := by
  unfold State.retimeSilence
  split
  exacts [moves_same rfl rfl rfl rfl rfl, .refl]

theorem moves_answerSetGlobals : Moves s (answerSetGlobals b s).state := by
  unfold answerSetGlobals
  split
  · exact .refl
  · split
    case h_1 => exact .refl
    case h_2 g body =>
      have set := (Move.configured (s := s) (fun h => workingSetOk_setGlobals h (globals_ofBody.mp body).2) rfl rfl).moves
      exact ((set.trans (moves_formDepth _)).trans (moves_considerGrant _)).trans (moves_retimeSilence _)

end

end Sys2Proof.Proofs
end

section
/-! PROOFS. Every command as moves of the configuration, the profile store, the scanner and the watches. -/

namespace Sys2Proof.Proofs

open Sys2Proof.Machine Sys2Proof.Safety Sys2Proof.Claims

/-! ### What the events of the expiries do -/

section

variable (s : State)

theorem moves_interbyteExpires : Moves s s.interbyteExpires := moves_same rfl rfl rfl rfl rfl

theorem moves_settleExpires (n : LoadIx) : Moves s (s.settleExpires n) := by
  refine .trans ?_ (moves_considerGrant _)
  split <;> exact moves_same rfl rfl rfl rfl rfl

theorem moves_cleanRunExpires (n : LoadIx) : Moves s (s.cleanRunExpires n) := moves_same rfl rfl rfl rfl rfl

theorem moves_backoffExpires (n : LoadIx) : Moves s (s.backoffExpires n) := by
  refine .trans ?_ (moves_considerGrant _)
  exact moves_same rfl rfl rfl rfl rfl

theorem moves_gapExpires : Moves s s.gapExpires := by
  refine .trans ?_ (moves_considerGrant _)
  exact moves_same rfl rfl rfl rfl rfl

theorem moves_holdExpires : Moves s s.holdExpires :=
  .trans (moves_same (by simp) (by simp) (by simp) (by simp) (by simp)) (moves_considerGrant _)

theorem moves_loseHost : Moves s s.loseHost := by
  have orphans : ∀ u, Moves u (State.eachLoad allLoads State.orphanAction u) := fun u =>
    moves_same (by simp) (by simp) (by simp) (by simp) (by simp)
  unfold State.loseHost
  refine .trans (.trans ?_ (orphans _)) (moves_considerGrant _)
  exact moves_same rfl rfl rfl rfl rfl

theorem moves_pgQualifies (n : LoadIx) : Moves s (s.pgQualifies n) := by
  unfold State.pgQualifies
  dsimp only
  split <;> exact moves_same rfl rfl rfl rfl rfl

theorem moves_killQualifies : Moves s s.killQualifies := by
  unfold State.killQualifies
  dsimp only
  split
  · exact .trans (moves_same (by simp) (by simp) (by simp) (by simp) (by simp)) (moves_considerGrant _)
  · exact moves_same rfl rfl rfl rfl rfl

theorem moves_shedQualifies : Moves s s.shedQualifies := by
  unfold State.shedQualifies
  dsimp only
  split
  · exact .trans (moves_same (by simp) (by simp) (by simp) (by simp) (by simp)) (moves_considerGrant _)
  · exact moves_same rfl rfl rfl rfl rfl

/-! ### The rows that are no request and no expiry -/

theorem moves_execHello : ∃ t, execHello s = .next t ∧ Moves s t := by
  have dropped : Moves s s.takeGrant.dropInbound := (moves_takeGrant s).trans (moves_same rfl rfl rfl rfl rfl)
  unfold execHello
  dsimp only
  split
  · exact ⟨_, rfl, moves_takeGrant s⟩
  · exact ⟨_, rfl, moves_then_kick ((dropped.trans (moves_answerHello _ _)).trans (moves_same rfl rfl rfl rfl rfl))⟩

theorem moves_execBadKindFrame : ∃ t, execBadKindFrame s = .next t ∧ Moves s t := by
  unfold execBadKindFrame
  dsimp only
  split
  · exact ⟨_, rfl, moves_takeGrant s⟩
  · exact ⟨_, rfl, moves_then_kick ((moves_takeGrant s).trans (moves_same rfl rfl rfl rfl rfl))⟩

theorem moves_execByteArrival (b : Byte) (stopError : Bool) : ∃ t, execByteArrival b stopError s = .next t ∧ Moves s t := by
  refine ⟨_, rfl, ?_⟩
  split
  case isFalse => exact .refl
  case isTrue =>
    refine moves_then_kick ?_
    cases stopError
    exacts [moves_same (by simp) (by simp) (by simp) (by simp) (by simp), moves_same rfl rfl rfl rfl rfl]

theorem moves_execLineFrees : ∃ t, execLineFrees s = .next t ∧ Moves s t := by
  have idle : Moves s s.goIdle.kick := moves_then_kick (moves_same rfl rfl rfl rfl rfl)
  unfold execLineFrees
  split
  · exact ⟨_, rfl, .refl⟩
  · exact ⟨_, rfl, idle⟩
  · refine ⟨_, rfl, ?_⟩
    split
    exacts [(Move.reset .request s (by decide)).moves, idle]

theorem moves_execPinReset : ∃ t, execPinReset s = .next t ∧ Moves s t := by
  refine ⟨_, rfl, ?_⟩
  split
  exacts [.refl, (Move.reset .pin s (by decide)).moves]

theorem moves_execResetEnd (br1 br0 asInh : PinLevel) : ∃ t, execResetEnd br1 br0 asInh s = .next t ∧ Moves s t := by
  refine ⟨_, rfl, ?_⟩
  split
  exacts [(Move.sampled _ s).moves, .refl]

theorem startupReports_scene : s.startupReports.ws = s.ws ∧ s.startupReports.phase = s.phase ∧
    s.startupReports.prof = s.prof ∧ s.startupReports.watches = s.watches ∧ s.startupReports.scan = s.scan := by
  rw [startupReports_eq]
  unfold startupShedInput startupKilled
  split <;> split <;> simp

/-- Steps 2 to 6 of start-up begin the scanner on the list of the selected profile (R192 to R195). -/
theorem sameScene_completeStartup (asInh : PinLevel) : SameScene (startedScene s) (s.completeStartup asInh) := by
  obtain ⟨ws, -, prof, watches, scan⟩ := startupReports_scene s.selectProfile
  unfold State.completeStartup State.startRunning startedScene
  dsimp only
  rw [ws, scan]
  refine .of_scan ?_ ?_ ?_ ?_ ?_ <;> simp only [State.considerGrant_ws, State.considerGrant_prof, State.considerGrant_watches,
    State.considerGrant_scan] <;> split <;> simp [prof, watches]

theorem moves_execReadingArrival (raw : Nat) : ∃ t, execReadingArrival raw s = .next t ∧ Moves s t := by
  have granted := moves_takeGrant s
  unfold execReadingArrival
  dsimp only
  split
  · exact ⟨_, rfl, granted⟩
  · exact ⟨_, rfl, granted⟩
  case h_3 ch restart converts =>
    refine ⟨_, rfl, ?_⟩
    split
    exacts [moves_then_kick (granted.trans (Move.converted raw converts).moves), granted]

theorem moves_execLadderEvaluation : ∃ t, execLadderEvaluation s = .next t ∧ Moves s t := by
  unfold execLadderEvaluation
  split
  · exact ⟨_, rfl, .refl⟩
  · refine ⟨_, rfl, moves_then_kick (Move.moves (.same ?_))⟩
    constructor <;> simp

/-- A watch that takes a reading is active (R83). -/
theorem moves_watchTakes (d : Delivery (List WatchIx)) (w : WatchIx) : Moves s (s.watchTakes d w) := by
  obtain ⟨-, eq⟩ | ⟨-, active, -, eq⟩ := s.watchTakes_cases d w <;> rw [eq]
  exact (Move.watchTook d.reading active).moves

theorem moves_watches (d : Delivery (List WatchIx)) :
    ∀ (ws : List WatchIx) (s : State), Moves s (ws.foldl (fun t w => t.watchTakes d w) s)
  | [], _ => .refl
  | w :: ws, s => (moves_watchTakes s d w).trans (moves_watches d ws _)

theorem moves_execWatchEvaluation : ∃ t, execWatchEvaluation s = .next t ∧ Moves s t := by
  unfold execWatchEvaluation
  split
  · exact ⟨_, rfl, .refl⟩
  · refine ⟨_, rfl, moves_then_kick (.trans ?_ (moves_watches _ allWatches _))⟩
    exact Move.moves (.same ⟨rfl, rfl, rfl, rfl, rfl, rfl, rfl, rfl, rfl⟩)

theorem moves_execLoadReading : ∃ t, execLoadReading s = .next t ∧ Moves s t := by
  unfold execLoadReading
  split
  · exact ⟨_, rfl, .refl⟩
  · refine ⟨_, rfl, moves_then_kick (Move.moves (.same ?_))⟩
    constructor <;> simp

/-- Time changes the timer of a save in flight alone (R1). -/
theorem elapse_save {s : State} {v : Save} (flight : s.prof.save = some v) (d : Nat) :
    ∃ timer, (s.elapse d).prof.save = some { v with timer := timer } := by
  unfold State.elapse
  split
  exacts [⟨_, congrArg (Option.map (Save.elapse d)) flight⟩, ⟨_, flight⟩]

theorem reachExpiry_save {s : State} {v : Save} (flight : s.prof.save = some v) (left : Nat) :
    ∃ timer, (s.reachExpiry left).prof.save = some { v with timer := timer } := elapse_save flight _

/-- A save in flight ends as the one that it is, whatever time has passed. -/
theorem moves_execSaveEnd (verified : Bool) : ∃ t, execSaveEnd verified s = .next t ∧ Moves s t := by
  unfold execSaveEnd
  dsimp only
  split
  · exact ⟨_, rfl, moves_takeGrant s⟩
  case h_2 v flight =>
    refine ⟨_, rfl, (moves_takeGrant s).trans (moves_whenDue v.timer fun left => ?_)⟩
    obtain ⟨timer, later⟩ := reachExpiry_save flight left
    exact (Move.saveEnded verified ⟨timer, later⟩).moves

theorem sceneAtReset_of_resetOk {s : State} (ok : ResetOk s) (stopped : s.phase ≠ .running) : SceneAtReset s := by
  obtain ⟨blocks, -⟩ := ok
  obtain ⟨-, -, -, scan, watches, -, -, -, -, -, -, -, -, -, save⟩ := blocks stopped
  exact ⟨scan, watches, save⟩

theorem SceneAtReset.elapse {s : State} (h : SceneAtReset s) (d : Nat) : SceneAtReset (s.elapse d) := by
  unfold State.elapse
  split
  · exact ⟨by simp [h.scan, Scanner.reset], h.watches, by simp [h.save]⟩
  · exact h

/-- Start-up waits for its 30 ms, in which nothing but its timers changes (R192). -/
theorem moves_execProfileSelection (reset : ResetOk s) (asInh : PinLevel) :
    ∃ t, execProfileSelection asInh s = .next t ∧ Moves s t := by
  refine ⟨_, rfl, ?_⟩
  split
  case isFalse => exact .refl
  case isTrue h =>
    obtain ⟨selecting, -⟩ := h
    have rest := sceneAtReset_of_resetOk reset (by rw [selecting]; decide)
    have started := Move.started (rest.elapse s.startup.left)
    exact moves_then_kick (((Move.elapse _ s).moves.tail started).tail (.same (sameScene_completeStartup _ asInh)))

end

/-- Every command of the model moves, in every state in which the blocks rest until start-up ends. -/
theorem exec_moves (c : Instr) {s : State} (reset : ResetOk s) : ∃ t, exec c s = .next t ∧ Moves s t := by
  have request : ∀ {own : List Byte → State → Answer}, (∀ b u, Moves u (own b u).state) →
      ∀ offers kind, Moves s (s.takeRequest offers kind own) := fun moves offers kind => moves_takeRequest moves offers kind s
  have expiry : ∀ {event : State → State}, (∀ u, Moves u (event u)) → ∀ t, Moves s (s.takeGrant.whenDue t event) :=
    fun moves t => (moves_takeGrant s).trans (moves_whenDue t fun _ => moves _)
  cases c with
  | hello => exact moves_execHello s
  | grant => exact ⟨_, rfl, request moves_answerGrant _ _⟩
  | ack => exact ⟨_, rfl, request moves_answerAck _ _⟩
  | resend => exact ⟨_, rfl, request moves_answerResend _ _⟩
  | snapshot => exact ⟨_, rfl, request moves_answerSnapshot _ _⟩
  | demand => exact ⟨_, rfl, request moves_answerDemand _ _⟩
  | clear => exact ⟨_, rfl, request moves_answerClear _ _⟩
  | setLoad => exact ⟨_, rfl, request moves_answerSetLoad _ _⟩
  | readLoad => exact ⟨_, rfl, request moves_answerReadLoad _ _⟩
  | forceLevel => exact ⟨_, rfl, request moves_answerForceLevel _ _⟩
  | setLadder => exact ⟨_, rfl, request moves_answerSetLadder _ _⟩
  | setCutoff => exact ⟨_, rfl, request moves_answerSetCutoff _ _⟩
  | readSeverity => exact ⟨_, rfl, request moves_answerReadSeverity _ _⟩
  | setScan => exact ⟨_, rfl, request moves_answerSetScan _ _⟩
  | setChannel => exact ⟨_, rfl, request moves_answerSetChannel _ _⟩
  | readChannels => exact ⟨_, rfl, request moves_answerReadChannels _ _⟩
  | setWatch => exact ⟨_, rfl, request moves_answerSetWatch _ _⟩
  | ackWatch => exact ⟨_, rfl, request moves_answerAckWatch _ _⟩
  | readWatch => exact ⟨_, rfl, request moves_answerReadWatch _ _⟩
  | setGlobals => exact ⟨_, rfl, request moves_answerSetGlobals _ _⟩
  | readSystem => exact ⟨_, rfl, request moves_answerReadSystem _ _⟩
  | readLink => exact ⟨_, rfl, request moves_answerReadLink _ _⟩
  | save => exact ⟨_, rfl, request moves_answerSave _ _⟩
  | reset => exact ⟨_, rfl, request moves_answerReset _ _⟩
  | badKindFrame => exact moves_execBadKindFrame s
  | byteArrival b stopError => exact moves_execByteArrival s b stopError
  | interbyteTimeout => exact ⟨_, rfl, expiry moves_interbyteExpires _⟩
  | lineFrees => exact moves_execLineFrees s
  | powerOnReset => exact ⟨_, rfl, (Move.reset .powerOn s (by decide)).moves⟩
  | pinReset => exact moves_execPinReset s
  | resetEnd br1 br0 asInh => exact moves_execResetEnd s br1 br0 asInh
  | profileSelection asInh => exact moves_execProfileSelection s reset asInh
  | readingArrival raw => exact moves_execReadingArrival s raw
  | pauseExpiry => exact ⟨_, rfl, moves_expiry (fun u => (Move.pauseOver u).moves) _ s _⟩
  | ladderEvaluation => exact moves_execLadderEvaluation s
  | watchEvaluation => exact moves_execWatchEvaluation s
  | loadReading => exact moves_execLoadReading s
  | startGrant => exact ⟨_, rfl, moves_takeGrant s⟩
  | settleExpiry n => exact ⟨_, rfl, moves_expiry (fun u => moves_settleExpires u n) _ s _⟩
  | cleanRunExpiry n => exact ⟨_, rfl, moves_expiry (fun u => moves_cleanRunExpires u n) _ s _⟩
  | backoffExpiry n => exact ⟨_, rfl, moves_expiry (fun u => moves_backoffExpires u n) _ s _⟩
  | gapExpiry => exact ⟨_, rfl, expiry moves_gapExpires _⟩
  | restoreHoldExpiry => exact ⟨_, rfl, expiry moves_holdExpires _⟩
  | silenceExpiry => exact ⟨_, rfl, moves_expiry moves_loseHost _ s _⟩
  | saveEnd verified => exact moves_execSaveEnd s verified
  | pgPinChange n level => exact ⟨_, rfl, moves_same rfl rfl rfl rfl rfl⟩
  | pgQualified n => exact ⟨_, rfl, expiry (fun u => moves_pgQualifies u n) _⟩
  | killPinChange level => exact ⟨_, rfl, moves_same rfl rfl rfl rfl rfl⟩
  | killQualified => exact ⟨_, rfl, expiry moves_killQualifies _⟩
  | shedPinChange level => exact ⟨_, rfl, moves_same rfl rfl rfl rfl rfl⟩
  | shedQualified => exact ⟨_, rfl, expiry moves_shedQualifies _⟩
  | powerLoss => exact ⟨_, rfl, (Move.reset s.session.cause s (by decide)).moves⟩

/-- So does every step (log 1). -/
theorem step_moves {s t : State} (reset : ResetOk s) (h : step s = .next t) : Moves s t := by
  obtain ⟨c, rest, h⟩ | rfl := step_cases h
  · obtain ⟨t', eq, moves⟩ := exec_moves c (s := { s with pending := rest }) reset
    obtain rfl := Host.Outcome.next.inj (h.symm.trans eq)
    refine .trans ?_ moves
    exact moves_same rfl rfl rfl rfl rfl
  · exact (Move.elapse 1 s).moves

end Sys2Proof.Proofs
end

section
/-! PROOFS. The laws of the configuration and of the profile store from command to command (O51). -/

namespace Sys2Proof.Proofs

open Sys2Proof.Machine Sys2Proof.Safety Sys2Proof.Claims

/-! ### The images (R183, R193) -/

/-- The working set, the images of both slots and the image of a save in flight were each accepted. -/
structure ImagesOk (s : State) : Prop where
  ws : WorkingSetOk s.ws
  slot : ∀ n, ∀ w ∈ heldImage (s.prof.slot n), WorkingSetOk w
  save : ∀ v ∈ s.prof.save, WorkingSetOk v.image

theorem configOk_iff {s : State} : ConfigOk s ↔ ImagesOk s where
  mp := fun ⟨ws, slot0, slot1, save⟩ => ⟨ws, fun n => by cases n; exacts [slot0, slot1], save⟩
  mpr := fun ⟨ws, slot, save⟩ => ⟨ws, slot .s0, slot .s1, save⟩

theorem ImagesOk.of_prof {s t : State} (h : ImagesOk s) (ws : WorkingSetOk t.ws) (slot : ∀ n, t.prof.slot n = s.prof.slot n)
    (save : t.prof.save = s.prof.save ∨ t.prof.save = none) : ImagesOk t where
  ws := ws
  slot n := slot n ▸ h.slot n
  save v flight := by
    obtain same | none := save
    exacts [h.save v (same ▸ flight), by rw [none] at flight; cases flight]

/-- What start-up loads was accepted: factory defaults or an image that a slot holds (R193). -/
theorem ImagesOk.imageOf {s : State} (h : ImagesOk s) (chosen : Option SlotName) : WorkingSetOk (s.prof.imageOf chosen) := by
  unfold Profile.imageOf
  split
  · exact workingSetOk_factory
  · split
    case h_1 image held => exact h.slot _ image (by rw [held]; rfl)
    all_goals exact workingSetOk_factory

theorem slot_setSlot (p : Profile) (n m : SlotName) (c : NvSlot) (k : SlotKnown) :
    (p.setSlot n c k).slot m = if m = n then c else p.slot m := by
  cases n <;> cases m <;> rfl

theorem known_setSlot (p : Profile) (n m : SlotName) (c : NvSlot) (k : SlotKnown) :
    (p.setSlot n c k).known m = if m = n then k else p.known m := by
  cases n <;> cases m <;> rfl

/-- A slot that is written leaves the active slot and its generation as they are. -/
theorem setSlot_active (p : Profile) (n : SlotName) (c : NvSlot) (k : SlotKnown) :
    (p.setSlot n c k).active = p.active ∧ (p.setSlot n c k).generation = p.generation := by
  cases n <;> exact ⟨rfl, rfl⟩

/-- Time changes no slot, and of a save in flight the timer alone (R1). -/
theorem elapse_prof (d : Nat) (s : State) :
    (s.elapse d).prof = s.prof ∨ (s.elapse d).prof = { s.prof with save := s.prof.save.map (Save.elapse d) } := by
  unfold State.elapse
  split
  exacts [.inr rfl, .inl rfl]

/-- Every move keeps the images accepted (R83, R183, R193). -/
theorem Move.imagesOk {s t : State} (move : Move s t) (h : ImagesOk s) : ImagesOk t := by
  have here := h.ws
  cases move with
  | same same => exact h.of_prof (by rw [same.ws]; exact here) (fun n => by rw [same.prof]) (.inl (by rw [same.prof]))
  | elapse d =>
    refine ⟨by rw [State.elapse_ws]; exact here, fun n => ?_, fun v flight => ?_⟩
    · obtain eq | eq := elapse_prof d s <;> rw [eq] <;> exact h.slot n
    · obtain eq | eq := elapse_prof d s <;> rw [eq] at flight
      · exact h.save v flight
      · obtain ⟨v', flight', rfl⟩ := Option.map_eq_some_iff.mp flight
        exact h.save v' flight'
  | reset cause _ _ => exact h.of_prof here (fun n => by cases n <;> rfl) (.inr rfl)
  | sampled straps => exact h.of_prof here (fun n => by cases n <;> rfl) (.inl rfl)
  | started _ => exact h.of_prof (h.imageOf _) (fun n => by cases n <;> rfl) (.inl rfl)
  | configured lawful _ _ => exact h.of_prof (lawful here) (fun n => by cases n <;> rfl) (.inl rfl)
  | watchSet ok scanned => exact h.of_prof (workingSetOk_setWatch here _ ok scanned) (fun n => by cases n <;> rfl) (.inl rfl)
  | scanSet ok kept =>
    obtain ⟨ladders, watches, -⟩ := kept
    exact h.of_prof (workingSetOk_setScan here ok ⟨ladders, watches⟩) (fun n => by cases n <;> rfl) (.inl rfl)
  | unlatched w => exact h.of_prof here (fun _ => rfl) (.inl rfl)
  | watchTook reading _ =>
    exact h.of_prof (by rw [State.evaluateWatch_ws]; exact here) (fun n => by rw [State.evaluateWatch_prof])
      (.inl (by rw [State.evaluateWatch_prof]))
  | converted raw _ =>
    exact h.of_prof (by rw [State.readingArrives_ws]; exact here) (fun n => by rw [State.readingArrives_prof])
      (.inl (by rw [State.readingArrives_prof]))
  | pauseOver => exact h.of_prof here (fun _ => rfl) (.inl rfl)
  | saveBegun free =>
    refine ⟨here, fun n w held => ?_, fun v flight => ?_⟩
    · change w ∈ heldImage ((s.prof.setSlot _ .torn .invalid).slot n) at held
      rw [slot_setSlot] at held
      split at held
      · cases held
      · exact h.slot n w held
    · cases flight
      exact here
  | @saveEnded v _ verified flight =>
    obtain ⟨timer, flight⟩ := flight
    cases verified with
    | false => exact h.of_prof here (fun n => by cases n <;> rfl) (.inr rfl)
    | true =>
      refine ⟨here, fun n w held => ?_, nofun⟩
      change w ∈ heldImage ((s.prof.setSlot _ (.written v.generation v.image) _).slot n) at held
      rw [slot_setSlot] at held
      split at held
      · obtain rfl : v.image = w := Option.some.inj held
        exact h.save { v with timer := timer } flight
      · exact h.slot n w held

/-! ### The profile store (R184, R186) -/

/-- The laws of the profile store in every phase. -/
structure ProfileLaw (p : Profile) : Prop where
  active : ∀ n ∈ p.active, p.known n = .valid p.generation
  noActive : p.active = none → p.generation = 0
  save : ∀ v ∈ p.save, v.target = nextTarget p.active ∧ v.generation = nextGeneration p.generation ∧
    p.slot v.target = .torn ∧ p.known v.target = .invalid ∧ v.timer.isRunning = true ∧ v.timer.left ≤ 45

/-- Both slots are known as R183 judges them. -/
def Judged (p : Profile) : Prop := p.known0 = some p.slot0.judge ∧ p.known1 = some p.slot1.judge

theorem profileOk_iff {s : State} : ProfileOk s ↔ ProfileLaw s.prof ∧ (s.phase = .running → Judged s.prof) where
  mp := fun ⟨active, noActive, judged, save⟩ => ⟨⟨active, noActive, save⟩, judged⟩
  mpr := fun ⟨⟨active, noActive, save⟩, judged⟩ => ⟨active, noActive, judged, save⟩

/-- A slot that is written as it is known is judged as it is known. -/
theorem Judged.setSlot {p : Profile} (h : Judged p) {c : NvSlot} {k : SlotKnown} (judge : c.judge = k) (n : SlotName) :
    Judged (p.setSlot n c k) := by
  obtain ⟨known0, known1⟩ := h
  cases n
  exacts [⟨congrArg some judge.symm, known1⟩, ⟨known0, congrArg some judge.symm⟩]

/-- The slot selected is VALID under the generation it is selected with (R192). -/
theorem selectSlot_valid {k0 k1 : SlotKnown} :
    (selectSlot k0 k1 = some .s0 → k0 = .valid k0.generation) ∧ (selectSlot k0 k1 = some .s1 → k1 = .valid k1.generation) := by
  cases k0 <;> cases k1 <;> simp [selectSlot, SlotKnown.generation]

theorem nextTarget_ne {active : Option SlotName} {n : SlotName} (h : n ∈ active) : n ≠ nextTarget active := by
  cases h
  cases n <;> decide

/-- The selection knows both slots by its own judgement and no save (R192). -/
theorem profileLaw_selectProfile {s : State} (free : s.prof.save = none) : ProfileLaw s.selectProfile.prof := by
  obtain ⟨valid0, valid1⟩ := selectSlot_valid (k0 := s.prof.slot0.judge) (k1 := s.prof.slot1.judge)
  refine ⟨fun n chosen => ?_, fun none => ?_, fun v flight => ?_⟩
  · have selected : selectSlot s.prof.slot0.judge s.prof.slot1.judge = some n := chosen
    unfold State.selectProfile
    dsimp only
    rw [selected]
    cases n
    exacts [valid0 selected, valid1 selected]
  · have selected : selectSlot s.prof.slot0.judge s.prof.slot1.judge = Option.none := none
    unfold State.selectProfile
    dsimp only
    rw [selected]
  · cases free.symm.trans flight

/-- Time leaves a save in flight with its timer running, and none the longer (R1, R187). -/
theorem ProfileLaw.elapse {p : Profile} (h : ProfileLaw p) (d : Nat) :
    ProfileLaw { p with save := p.save.map (Save.elapse d) } := by
  refine ⟨h.active, h.noActive, fun v flight => ?_⟩
  obtain ⟨v, flight', rfl⟩ := Option.map_eq_some_iff.mp flight
  obtain ⟨target, generation, torn, known, runs, short⟩ := h.save v flight'
  refine ⟨target, generation, torn, known, (Timer.elapse_isRunning d v.timer).trans runs, ?_⟩
  change (v.timer.elapse d).left ≤ 45
  cases timer : v.timer with
  | stopped | overdue => simp
  | running left =>
    rw [timer, Timer.left_running] at short
    rw [Timer.elapse_running]
    split <;> simp; omega

/-- The active generation is the one held, which is 0 without an active slot (R184). -/
theorem ProfileLaw.activeGeneration {p : Profile} (h : ProfileLaw p) : p.activeGeneration = p.generation := by
  unfold Profile.activeGeneration
  split
  case isTrue none => exact (h.noActive (Option.isNone_iff_eq_none.mp none)).symm
  case isFalse => rfl

/-- Every move keeps the laws of the profile store. -/
theorem Move.profileOk {s t : State} (move : Move s t) (images : ImagesOk s) (h : ProfileOk s) : ProfileOk t := by
  rw [profileOk_iff] at h ⊢
  obtain ⟨law, judged⟩ := h
  cases move with
  | same same => rw [same.prof, same.phase]; exact ⟨law, judged⟩
  | elapse d =>
    rw [State.elapse_phase]
    obtain eq | eq := elapse_prof d s <;> rw [eq]
    exacts [⟨law, judged⟩, ⟨law.elapse d, judged⟩]
  | reset cause _ stops =>
    exact ⟨⟨nofun, fun _ => rfl, nofun⟩, fun runs => absurd runs stops⟩
  | sampled straps => exact ⟨⟨law.active, law.noActive, law.save⟩, nofun⟩
  | started rest => exact ⟨profileLaw_selectProfile rest.save, fun _ => ⟨rfl, rfl⟩⟩
  | configured _ _ _ => exact ⟨⟨law.active, law.noActive, law.save⟩, judged⟩
  | watchSet _ _ => exact ⟨⟨law.active, law.noActive, law.save⟩, judged⟩
  | scanSet _ _ => exact ⟨⟨law.active, law.noActive, law.save⟩, judged⟩
  | unlatched w => exact ⟨law, judged⟩
  | watchTook reading _ => rw [State.evaluateWatch_prof, State.evaluateWatch_phase]; exact ⟨law, judged⟩
  | converted raw _ => rw [State.readingArrives_prof, State.readingArrives_phase]; exact ⟨law, judged⟩
  | pauseOver => exact ⟨law, judged⟩
  | saveBegun free =>
    obtain ⟨active, generation⟩ : s.beginSave.prof.active = s.prof.active ∧ s.beginSave.prof.generation = s.prof.generation :=
      setSlot_active ..
    refine ⟨⟨fun n mem => ?_, by rw [active, generation]; exact law.noActive, fun v flight => ?_⟩,
      fun runs => (judged runs).setSlot rfl _⟩
    · rw [active] at mem
      rw [generation]
      exact (known_setSlot ..).trans ((if_neg (nextTarget_ne mem)).trans (law.active n mem))
    · cases flight
      rw [active, generation]
      refine ⟨rfl, congrArg nextGeneration law.activeGeneration, ?_, ?_, rfl, Nat.le_refl 45⟩
      · exact (slot_setSlot ..).trans (if_pos rfl)
      · exact (known_setSlot ..).trans (if_pos rfl)
  | @saveEnded v _ verified flight =>
    obtain ⟨timer, flight⟩ := flight
    cases verified with
    | false => exact ⟨⟨law.active, law.noActive, nofun⟩, judged⟩
    | true =>
      have ok := images.save { v with timer := timer } flight
      have judge : (NvSlot.written v.generation v.image).judge = .valid v.generation := if_pos ok.1
      refine ⟨⟨fun n active => ?_, nofun, nofun⟩,
        fun runs => (judged runs).setSlot judge v.target⟩
      cases active
      exact (known_setSlot ..).trans (if_pos rfl)

/-- Settles O51: every command makes such moves, and each keeps the images accepted and the profile store lawful. -/
theorem stepKeepsConfigurationAndProfileLawful : Obligations.StepKeepsConfigurationAndProfileLawful := by
  intro s t reset config profile h
  have kept : ImagesOk t ∧ ProfileOk t :=
    (step_moves reset h).keeps (P := fun s => ImagesOk s ∧ ProfileOk s)
      (fun move ⟨images, profile⟩ => ⟨move.imagesOk images, move.profileOk images profile⟩) ⟨configOk_iff.mp config, profile⟩
  exact ⟨configOk_iff.mpr kept.1, kept.2⟩

end Sys2Proof.Proofs
end

section
/-! PROOFS. The laws of the scanner and of the watches from command to command (O55). -/

namespace Sys2Proof.Proofs

open Sys2Proof.Machine Sys2Proof.Safety Sys2Proof.Claims

/-! ### The scanner on its list (R76, R84, R86) -/

/-- The scanner converts the channel under its cursor, or starts a new list over, or pauses at entry 0. -/
structure OnList (list : List ChanIx) (c : Scanner) : Prop where
  entry : ∀ ch, c.state = .converting ch false → list[c.cursor]? = some ch
  restarts : ∀ ch, c.state = .converting ch true → c.cursor = 0
  pauses : c.pause.isRunning = true ↔ c.state = .paused
  first : c.state = .paused → c.cursor = 0

/-- A channel not read stands at its reset record, and an invalid one shows no reading (R74, R81). -/
def RecordsOk (records : Vector ChannelRec 24) : Prop :=
  ∀ c : ChanIx, (records[c].read = false → records[c] = ChannelRec.reset) ∧
    (records[c].valid = false → records[c].latest = none)

/-- Priming waits only for an unread channel of the list (R84). -/
def PrimingOk (list : List ChanIx) (c : Scanner) : Prop := c.primed = false → ∃ ch ∈ list, c.records[ch].read = false

/-- The laws of the scanner, part by part. -/
structure ScansOk (s : State) : Prop where
  going : s.phase = .running → s.scan.state ≠ .stopped
  onList : OnList s.ws.scanList s.scan
  records : RecordsOk s.scan.records
  priming : PrimingOk s.ws.scanList s.scan

theorem scannerOk_iff {s : State} : ScannerOk s ↔ ScansOk s where
  mp := fun ⟨going, entry, restarts, pauses, first, records, priming⟩ =>
    ⟨going, ⟨entry, restarts, pauses, first⟩, records, priming⟩
  mpr := fun ⟨going, ⟨entry, restarts, pauses, first⟩, records, priming⟩ =>
    ⟨going, entry, restarts, pauses, first, records, priming⟩

/-- An accepted list has an entry 0 (R85). -/
theorem scanOk_ne_nil {list : List ChanIx} {pause : Nat} (ok : scanOk list pause = true) : list ≠ [] :=
  List.length_pos_iff.mp (scanOk_iff.mp ok).1

theorem scanList_ne_nil {w : WorkingSet} (h : WorkingSetOk w) : w.scanList ≠ [] :=
  scanOk_ne_nil (fieldsOk_iff.mp h.1).scan

/-- The laws of the scanner rest on its own fields alone. -/
theorem ScansOk.congr {s t : State} (h : ScansOk s) (ws : t.ws.scanList = s.ws.scanList)
    (phase : t.phase = .running → s.phase = .running) (state : t.scan.state = s.scan.state)
    (cursor : t.scan.cursor = s.scan.cursor) (pause : t.scan.pause.isRunning = s.scan.pause.isRunning)
    (records : t.scan.records = s.scan.records) (primed : t.scan.primed = s.scan.primed) : ScansOk t where
  going runs := by rw [state]; exact h.going (phase runs)
  onList := by
    obtain ⟨entry, restarts, pauses, first⟩ := h.onList
    constructor <;> simp only [ws, state, cursor, pause]
    exacts [entry, restarts, pauses, first]
  records := by rw [records]; exact h.records
  priming := by unfold PrimingOk; rw [ws, primed, records]; exact h.priming

/-- The conversion of an entry begins while no pause runs. -/
theorem onList_begin {list : List ChanIx} {i : Nat} (lt : i < list.length) {c : Scanner} (quiet : c.pause.isRunning = false) :
    OnList list (c.begin list i) ∧ (c.begin list i).state ≠ .stopped := by
  rw [Scanner.begin_of_lt lt]
  refine ⟨⟨fun ch converts => ?_, fun ch converts => ?_, ?_, nofun⟩, nofun⟩
  · cases converts; exact List.getElem?_eq_getElem lt
  · cases converts
  · simp [quiet]

/-- What follows the end of a conversion (R76, R86). -/
theorem OnList.next {list : List ChanIx} (some : list ≠ []) {c : Scanner} {ch : ChanIx} {restart : Bool} (h : OnList list c)
    (converts : c.state = .converting ch restart) (pause : Nat) (again : Bool) :
    OnList list (c.next list pause again) ∧ (c.next list pause again).state ≠ .stopped := by
  have entries : 0 < list.length := List.length_pos_iff.mpr some
  have quiet : c.pause.isRunning = false := by
    rw [← Bool.not_eq_true, h.pauses, converts]; nofun
  obtain ⟨-, eq⟩ | ⟨-, more, eq⟩ | ⟨-, -, -, eq⟩ | ⟨-, -, -, eq⟩ := c.next_cases list pause again <;> rw [eq]
  · exact onList_begin entries quiet
  · exact onList_begin more quiet
  · exact onList_begin entries quiet
  · exact ⟨⟨nofun, nofun, by simp, fun _ => rfl⟩, nofun⟩

/-- How the scanner proceeds on a new list (R86). -/
theorem OnList.restart {old list : List ChanIx} (some : list ≠ []) {c : Scanner} (h : OnList old c) :
    OnList list (c.restart list) ∧ (c.state ≠ .stopped → (c.restart list).state ≠ .stopped) := by
  unfold Scanner.restart
  split
  case h_1 ch again converts =>
    refine ⟨⟨nofun, fun _ _ => rfl, ?_, nofun⟩, nofun⟩
    simp [h.pauses, converts]
  case h_2 =>
    obtain ⟨onList, going⟩ := onList_begin (List.length_pos_iff.mpr some) (c := { c with pause := .stopped }) rfl
    exact ⟨onList, fun _ => going⟩
  case h_3 stopped =>
    refine ⟨⟨fun _ converts => ?_, h.restarts, h.pauses, h.first⟩, id⟩
    rw [stopped] at converts; cases converts

/-- Neither the priming check nor the handing on of a reading moves the scanner. -/
theorem OnList.congr {list : List ChanIx} {c d : Scanner} (h : OnList list c) (state : d.state = c.state)
    (cursor : d.cursor = c.cursor) (pause : d.pause = c.pause) : OnList list d := by
  obtain ⟨entry, restarts, pauses, first⟩ := h
  constructor <;> simp only [state, cursor, pause]
  exacts [entry, restarts, pauses, first]

/-- After the priming check it waits for an unread channel only (R84). -/
theorem primingOk_checkPriming (list : List ChanIx) (c : Scanner) : PrimingOk list (c.checkPriming list) := by
  intro unprimed
  simp only [Scanner.checkPriming, Bool.or_eq_false_iff] at unprimed
  obtain ⟨ch, mem, unread⟩ := List.all_eq_false.mp unprimed.2
  exact ⟨ch, mem, Bool.eq_false_iff.mpr unread⟩

theorem begin_records (list : List ChanIx) (i : Nat) (c : Scanner) : (c.begin list i).records = c.records := by
  unfold Scanner.begin
  split <;> rfl

theorem restart_records (list : List ChanIx) (c : Scanner) : (c.restart list).records = c.records := by
  unfold Scanner.restart
  split
  exacts [rfl, begin_records list 0 _, rfl]

theorem next_records (list : List ChanIx) (pause : Nat) (restart : Bool) (c : Scanner) :
    (c.next list pause restart).records = c.records := by
  obtain ⟨-, eq⟩ | ⟨-, -, eq⟩ | ⟨-, -, -, eq⟩ | ⟨-, -, -, eq⟩ := c.next_cases list pause restart <;> rw [eq]
  all_goals exact begin_records ..

/-- The record of a conversion is lawful: it is read, and shows no reading where it is invalid (R79, R81). -/
theorem RecordsOk.set {records : Vector ChannelRec 24} (h : RecordsOk records) (ch : ChanIx) (config : ChannelConfig)
    (raw : Nat) (time : DWord) : RecordsOk (records.set ch (channelRecord config raw time)) :=
  forall_set (fun r : ChannelRec => (r.read = false → r = ChannelRec.reset) ∧ (r.valid = false → r.latest = none)) h
    ⟨nofun, fun invalid => if_neg (ne_true_of_eq_false invalid)⟩

/-- At the reset values priming waits for the first channel of any list (R84). -/
theorem primingOk_reset {list : List ChanIx} (some : list ≠ []) {c : Scanner} (unread : c.records = Scanner.reset.records) :
    PrimingOk list c := fun _ =>
  ⟨list.head some, List.head_mem some, by rw [unread]; exact congrArg ChannelRec.read (Vector.getElem_replicate _)⟩

theorem recordsOk_reset : RecordsOk Scanner.reset.records := fun c => by
  have reset : Scanner.reset.records[c] = ChannelRec.reset := Vector.getElem_replicate _
  rw [reset]
  exact ⟨fun _ => rfl, nofun⟩

/-- A scanner that has been reset. -/
theorem scansOk_reset {s : State} (stops : s.phase ≠ .running) (some : s.ws.scanList ≠ []) (scan : s.scan = Scanner.reset) :
    ScansOk s where
  going runs := absurd runs stops
  onList := by rw [scan]; exact ⟨nofun, nofun, by decide, nofun⟩
  records := by rw [scan]; exact recordsOk_reset
  priming := primingOk_reset some (by rw [scan])

/-- The end of a conversion (R76, R81, R84). -/
theorem ScansOk.readingArrives {s : State} (h : ScansOk s) (some : s.ws.scanList ≠ []) {ch : ChanIx} {restart : Bool}
    (converts : s.scan.state = .converting ch restart) (raw : Nat) : ScansOk (s.readingArrives ch restart raw) := by
  obtain ⟨c, handed⟩ : ∃ c, c = ((({ s.scan with
      records := s.scan.records.set ch (channelRecord s.ws.channels[ch] raw s.timeBase) } : Scanner).checkPriming
        s.ws.scanList).deliver s.ws ch (s.ws.channels[ch].reading raw)) := ⟨_, rfl⟩
  have scan : (s.readingArrives ch restart raw).scan = c.next s.ws.scanList s.ws.cyclePause restart := by
    rw [handed]; unfold State.readingArrives; simp only [State.sensorReport_scan]
  have onList : OnList s.ws.scanList c := h.onList.congr (by rw [handed]; rfl) (by rw [handed]; rfl) (by rw [handed]; rfl)
  obtain ⟨onList, going⟩ := onList.next some (by rw [handed]; exact converts) s.ws.cyclePause restart
  have priming : PrimingOk s.ws.scanList c := by rw [handed]; exact primingOk_checkPriming _ _
  have records : RecordsOk c.records := by rw [handed]; exact h.records.set ch _ raw _
  refine ⟨fun _ => ?_, ?_, ?_, ?_⟩
  · rw [scan]; exact going
  · rw [scan, State.readingArrives_ws]; exact onList
  · rw [scan, next_records]; exact records
  · unfold PrimingOk
    rw [scan, State.readingArrives_ws, next_primed, next_records]
    exact priming

/-- Time ends no pause by itself (R1). -/
theorem elapse_pause (d : Nat) (s : State) : (s.elapse d).scan.pause.isRunning = s.scan.pause.isRunning := by
  unfold State.elapse
  split
  exacts [Timer.elapse_isRunning d _, rfl]

/-- The conversion of entry 0 begins: at the end of start-up (R195) and of a pause (R76). -/
theorem ScansOk.begin {t : State} {c : Scanner} (some : t.ws.scanList ≠ []) (quiet : c.pause.isRunning = false)
    (records : RecordsOk c.records) (priming : PrimingOk t.ws.scanList c) (scan : t.scan = c.begin t.ws.scanList 0) :
    ScansOk t := by
  obtain ⟨onList, going⟩ := onList_begin (List.length_pos_iff.mpr some) quiet
  refine ⟨fun _ => ?_, ?_, ?_, ?_⟩
  · rw [scan]; exact going
  · rw [scan]; exact onList
  · rw [scan, begin_records]; exact records
  · unfold PrimingOk
    rw [scan, begin_primed, begin_records]
    exact priming

/-- Every move keeps the scanner on its list. -/
theorem Move.scansOk {s t : State} (move : Move s t) (images : ImagesOk s) (h : ScansOk s) : ScansOk t := by
  have some := scanList_ne_nil images.ws
  cases move with
  | same same =>
    exact h.congr (by rw [same.ws]) (by rw [same.phase]; exact id) same.state same.cursor (by rw [same.pause]) same.records
      same.primed
  | elapse d =>
    exact h.congr (by simp) (by simp) (by simp) (by simp) (elapse_pause d s) (by simp) (by simp)
  | reset cause _ stops => exact scansOk_reset stops some rfl
  | sampled straps => exact h.congr rfl nofun rfl rfl rfl rfl rfl
  | started rest =>
    have some : s.selectProfile.ws.scanList ≠ [] := scanList_ne_nil (images.imageOf _)
    have records : s.scan.records = Scanner.reset.records := by rw [rest.scan]
    exact .begin some (by rw [rest.scan]; rfl) h.records
      (primingOk_reset some records) rfl
  | configured _ list _ => exact h.congr list id rfl rfl rfl rfl rfl
  | watchSet _ _ =>
    refine h.congr rfl id ?_ ?_ ?_ ?_ ?_ <;> simp only [State.configureWatch, State.setDirty_scan] <;> split <;> rfl
  | @scanSet list pause _ ok kept =>
    obtain ⟨onList, going⟩ := h.onList.restart (scanOk_ne_nil ok)
    refine ⟨fun runs => going (h.going runs), onList.congr rfl rfl rfl, ?_, primingOk_checkPriming _ _⟩
    change RecordsOk (s.scan.restart list).records
    rw [restart_records]
    exact h.records
  | unlatched w => exact h.congr rfl id rfl rfl rfl rfl rfl
  | watchTook reading _ => exact h.congr (by simp) (by simp) (by simp) (by simp) (by simp) (by simp) (by simp)
  | converted raw converts => exact h.readingArrives some converts raw
  | pauseOver =>
    exact .begin (c := { s.scan with pause := .stopped }) some rfl h.records h.priming rfl
  | saveBegun _ => exact h.congr rfl id rfl rfl rfl rfl rfl
  | saveEnded verified _ => cases verified <;> exact h.congr rfl id rfl rfl rfl rfl rfl

/-! ### The watches (R90, R92 to R97) -/

/-- A watch that has taken this reading may stand in this state (R92 to R94). -/
def Placed (c : WatchConfig) (reading : Reading) (latched : Bool) (st : WatchState) : Prop :=
  watchPlaced c { state := st, latched := latched, last := reading } = true ∧ st ≠ .pending

section

variable {c : WatchConfig} {v : Int} {latched : Bool}

theorem placed_above (h : c.high - c.hysteresis < v) : Placed c (some v) latched .above := ⟨decide_eq_true h, nofun⟩

theorem placed_below (h : v < c.low + c.hysteresis) : Placed c (some v) latched .below := ⟨decide_eq_true h, nofun⟩

theorem placed_inside (low : c.low ≤ v) (high : v ≤ c.high) : Placed c (some v) latched .inside :=
  ⟨by simp only [watchPlaced, low, high, decide_true, Bool.and_self], nofun⟩

theorem placed_firstState : Placed c (some v) latched (c.firstState (some v)) := by
  unfold WatchConfig.firstState
  dsimp only
  split
  · exact placed_above (by omega)
  · split
    exacts [placed_below (by omega), placed_inside (by omega) (by omega)]

end

/-- Where a reading places a watch (R92 to R94). -/
theorem placed_nextState (c : WatchConfig) (st : WatchState) (latched : Bool) (reading : Reading) :
    Placed c reading latched (c.nextState st reading) := by
  cases reading with
  | none => exact ⟨rfl, nofun⟩
  | some v =>
    cases st with
    | pending | fault | inside => exact placed_firstState
    | above =>
      unfold WatchConfig.nextState
      dsimp only
      split
      · exact placed_below (by omega)
      · split
        exacts [placed_inside (by omega) (by omega), placed_above (by omega)]
    | below =>
      unfold WatchConfig.nextState
      dsimp only
      split
      · exact placed_above (by omega)
      · split
        exacts [placed_inside (by omega) (by omega), placed_below (by omega)]

/-- A LATCHED watch that reports has left its window (R96). -/
theorem watchOk_took {c : WatchConfig} {r : WatchRec} (h : WatchOk c r) (active : c.mode ≠ .off) (reading : Reading) :
    WatchOk c
      { state := c.nextState r.state reading
        latched := r.latched ||
          (watchReports c.mode r.latched r.state (c.nextState r.state reading) && decide (c.mode = .latched))
        last := reading } := by
  obtain ⟨-, -, latched⟩ := h
  obtain ⟨placed, left⟩ := placed_nextState c r.state _ reading
  refine ⟨placed, fun off => absurd off active, fun flag => ⟨?_, left⟩⟩
  rw [Bool.or_eq_true, Bool.and_eq_true, decide_eq_true_eq] at flag
  obtain before | ⟨-, now⟩ := flag
  exacts [(latched before).1, now]

theorem watchOk_reset (c : WatchConfig) : WatchOk c WatchRec.reset := ⟨rfl, fun _ => rfl, nofun⟩

/-- Every move keeps each watch where its reading stands. -/
theorem Move.watchesOk {s t : State} (move : Move s t) (h : WatchesOk s) : WatchesOk t := by
  have kept : ∀ {t : State}, t.ws.watches = s.ws.watches → t.watches = s.watches → WatchesOk t :=
    fun config watches w => by rw [config, watches]; exact h w
  have atReset : ∀ {t : State}, t.watches = Vector.replicate 16 WatchRec.reset → WatchesOk t := fun {t} watches w => by
    have reset : t.watches[w] = WatchRec.reset := by rw [watches]; exact Vector.getElem_replicate _
    rw [reset]; exact watchOk_reset _
  cases move with
  | same same => exact kept (by rw [same.ws]) same.watches
  | elapse d => exact kept (by simp) (by simp)
  | reset cause _ _ => exact atReset rfl
  | sampled straps => exact kept rfl rfl
  | started rest => exact atReset rest.watches
  | configured _ _ watches => exact kept watches rfl
  | @watchSet i c _ ok _ =>
    intro w
    change WatchOk (s.ws.watches.set i c)[w] (s.watches.set i WatchRec.reset)[w]
    by_cases same : w = i
    · rw [same, vector_set_self, vector_set_self]; exact watchOk_reset c
    · rw [vector_set_other same, vector_set_other same]; exact h w
  | scanSet _ _ => exact kept rfl rfl
  | unlatched i =>
    intro w
    change WatchOk s.ws.watches[w] (s.watches.set i { s.watches[i] with latched := false })[w]
    by_cases same : w = i
    · obtain ⟨placed, off, -⟩ := h i
      rw [same, vector_set_self]
      exact ⟨placed, fun isOff => by rw [off isOff]; rfl, nofun⟩
    · rw [vector_set_other same]; exact h w
  | @watchTook i _ reading active =>
    intro w
    rw [State.evaluateWatch_ws]
    by_cases same : w = i
    · rw [same, State.evaluateWatch_self]; exact watchOk_took (h i) active reading
    · rw [State.evaluateWatch_other same]; exact h w
  | converted raw _ => exact kept (by simp) (by simp)
  | pauseOver => exact kept rfl rfl
  | saveBegun _ => exact kept rfl rfl
  | saveEnded verified _ => cases verified <;> exact kept rfl rfl

/-- Settles O55: every command makes such moves, each keeps the scanner on a list that is not empty, and a watch changes only by
its tables, by its unlatching and to its reset values. -/
theorem stepKeepsScannerAndWatchesLawful : Obligations.StepKeepsScannerAndWatchesLawful := by
  intro s t reset config scanner watches h
  have kept : ImagesOk t ∧ ScansOk t ∧ WatchesOk t :=
    (step_moves reset h).keeps (P := fun s => ImagesOk s ∧ ScansOk s ∧ WatchesOk s)
      (fun move ⟨images, scans, watches⟩ => ⟨move.imagesOk images, move.scansOk images scans, move.watchesOk watches⟩)
      ⟨configOk_iff.mp config, scannerOk_iff.mp scanner, watches⟩
  exact ⟨scannerOk_iff.mpr kept.2.1, kept.2.2⟩

end Sys2Proof.Proofs
end

section
/-! PROOFS. A reading at a watch and at all of them, in closed form (O41). -/

namespace Sys2Proof.Proofs

open Sys2Proof.Machine Sys2Proof.Safety Sys2Proof.Claims

/-! ### The tables of a watch (R92 to R96) -/

theorem watchAfter_eq (c : WatchConfig) (st : WatchState) (reading : Reading) :
    watchAfter c st reading = c.nextState st reading := by
  cases reading with
  | none => rfl
  | some v => cases st <;> rfl

/-- A departure is a change from home to a state away from it (R96). -/
theorem departs_eq (old new : WatchState) : departs old new = (decide (old ≠ new) && old.isHome && !new.isHome) := by
  cases old <;> cases new <;> rfl

theorem watchTells_eq (c : WatchConfig) (r : WatchRec) (new : WatchState) :
    watchTells c r new = watchReports c.mode r.latched r.state new := by
  unfold watchTells watchReports
  cases c.mode with
  | off | tracking => rfl
  | latched =>
    rw [departs_eq, ← Bool.and_assoc, ← Bool.and_assoc, Bool.and_comm (!r.latched)]

/-! ### A reading at one watch (R83, R91) -/

/-- s with these watch records and this report store. -/
def withWatches (watches : Vector WatchRec 16) (store : Store) (s : State) : State :=
  { s with watches := watches, store := store }

/-- Watch w was bound to the reading's channel when it arrived and still is (R83). -/
def watchBound (d : Delivery (List WatchIx)) (s : State) (w : WatchIx) : Bool :=
  d.bound.contains w && decide (s.ws.watches[w].mode ≠ .off) && decide (s.ws.watches[w].channel = d.channel)

/-- The state of watch w after the reading. -/
def watchMoved (d : Delivery (List WatchIx)) (s : State) (w : WatchIx) : WatchState :=
  watchAfter s.ws.watches[w] s.watches[w].state d.reading

/-- Its new state is told, if it takes the reading (R95, R96). -/
def watchTold (d : Delivery (List WatchIx)) (s : State) (w : WatchIx) : Bool :=
  watchTells s.ws.watches[w] s.watches[w] (watchMoved d s w)

/-- The record of watch w after the reading. -/
def watchRead (d : Delivery (List WatchIx)) (s : State) (w : WatchIx) : WatchRec :=
  { state := watchMoved d s w, last := d.reading,
    latched := s.watches[w].latched || (decide (s.ws.watches[w].mode = .latched) && watchTold d s w) }

/-- The WATCH report of watch w (R98). -/
def watchReport (d : Delivery (List WatchIx)) (s : State) (w : WatchIx) : Payload :=
  .watch w s.ws.watches[w].channel s.ws.watches[w].mode s.watches[w].state (watchMoved d s w) d.reading
    s.ws.watches[w].low s.ws.watches[w].high

/-- The reading at these watches in closed form. -/
def watchedByAll (d : Delivery (List WatchIx)) (ws : List WatchIx) (s : State) : State :=
  withWatches (Vector.ofFn fun w => if ws.contains w && watchBound d s w then watchRead d s w else s.watches[w])
    (postAll s.timeBase ((ws.filter fun w => watchBound d s w && watchTold d s w).map (watchReport d s)) s.store) s

theorem watchBound_iff {d : Delivery (List WatchIx)} {s : State} {w : WatchIx} :
    watchBound d s w = true ↔ w ∈ d.bound ∧ s.ws.watches[w].mode ≠ .off ∧ s.ws.watches[w].channel = d.channel := by
  simp only [watchBound, Bool.and_eq_true, List.contains_iff_mem, decide_eq_true_eq, and_assoc]

/-- A watch that takes a reading gets the record of R92 to R96, and its report is posted. -/
theorem evaluateWatch_eq (d : Delivery (List WatchIx)) (w : WatchIx) (s : State) :
    s.evaluateWatch w d.reading =
      withWatches (s.watches.set w (watchRead d s w))
        (postAll s.timeBase (if watchTold d s w then [watchReport d s w] else []) s.store) s := by
  unfold State.evaluateWatch watchReport watchRead watchTold watchMoved
  simp only [watchTells_eq, watchAfter_eq]
  rw [Bool.and_comm]
  split <;> rfl

/-- A reading at one watch (R83, R91). -/
theorem watchTakes_eq (d : Delivery (List WatchIx)) (w : WatchIx) (s : State) :
    s.watchTakes d w =
      withWatches (if watchBound d s w then s.watches.set w (watchRead d s w) else s.watches)
        (postAll s.timeBase (if watchBound d s w && watchTold d s w then [watchReport d s w] else []) s.store) s := by
  cases takes : watchBound d s w with
  | false =>
    rw [State.watchTakes, if_neg fun h => Bool.false_ne_true (takes.symm.trans (watchBound_iff.mpr h))]
    rfl
  | true =>
    rw [State.watchTakes, if_pos (watchBound_iff.mp takes), evaluateWatch_eq]
    rfl

/-- What watch w makes of the reading depends on its own record alone. -/
theorem watchRead_congr (d : Delivery (List WatchIx)) {s t : State} {w : WatchIx} (ws : t.ws = s.ws)
    (record : t.watches[w] = s.watches[w]) :
    watchBound d t w = watchBound d s w ∧ watchRead d t w = watchRead d s w ∧ watchTold d t w = watchTold d s w ∧
      watchReport d t w = watchReport d s w := by
  unfold watchReport watchRead watchTold watchMoved watchBound
  rw [ws, record]
  exact ⟨rfl, rfl, rfl, rfl⟩

theorem watchTakes_self (d : Delivery (List WatchIx)) (w : WatchIx) (s : State) :
    (s.watchTakes d w).watches[w] = if watchBound d s w then watchRead d s w else s.watches[w] := by
  rw [watchTakes_eq]
  cases watchBound d s w with
  | false => rfl
  | true => exact vector_set_self w _ _

theorem watchTakes_other (d : Delivery (List WatchIx)) {v w : WatchIx} (ne : v ≠ w) (s : State) :
    (s.watchTakes d w).watches[v] = s.watches[v] := by
  obtain ⟨-, eq⟩ | ⟨-, -, -, eq⟩ := s.watchTakes_cases d w <;> rw [eq]
  exact State.evaluateWatch_other ne d.reading s

/-! ### A reading at all watches (R91) -/

/-- The first watch takes the reading, and the others take it as they would have. -/
theorem watchedByAll_cons (d : Delivery (List WatchIx)) {w : WatchIx} {ws : List WatchIx} (fresh : w ∉ ws) (s : State) :
    watchedByAll d (w :: ws) s = watchedByAll d ws (s.watchTakes d w) := by
  obtain ⟨t, took⟩ : ∃ t, t = s.watchTakes d w := ⟨_, rfl⟩
  have other : ∀ v, v ≠ w → t.watches[v] = s.watches[v] := fun v ne => took ▸ watchTakes_other d ne s
  have same := fun v (ne : v ≠ w) => watchRead_congr d (took ▸ State.watchTakes_ws ..) (other v ne)
  have ne : ∀ v ∈ ws, v ≠ w := fun v mem is => fresh (is ▸ mem)
  have watches : (Vector.ofFn fun v => if (w :: ws).contains v && watchBound d s v then watchRead d s v else s.watches[v]) =
      Vector.ofFn fun v => if ws.contains v && watchBound d t v then watchRead d t v else t.watches[v] := by
    refine congrArg Vector.ofFn (funext fun v => ?_)
    by_cases first : v = w
    · subst first
      rw [took, watchTakes_self]
      simp [fresh]
    · obtain ⟨bound, record, -⟩ := same v first
      rw [bound, record, other v first]
      simp [first]
  have told : (ws.filter fun v => watchBound d t v && watchTold d t v) =
      ws.filter fun v => watchBound d s v && watchTold d s v := List.filter_congr fun v mem => by
    obtain ⟨bound, -, told, -⟩ := same v (ne v mem)
    rw [bound, told]
  have reports : (ws.filter fun v => watchBound d s v && watchTold d s v).map (watchReport d t) =
      (ws.filter fun v => watchBound d s v && watchTold d s v).map (watchReport d s) :=
    List.map_congr_left fun v mem => by
      obtain ⟨-, -, -, report⟩ := same v (ne v (List.mem_of_mem_filter mem))
      exact report
  unfold watchedByAll
  rw [← took, ← watches, told, reports, took, watchTakes_eq, List.filter_cons]
  split <;> rfl

/-- A reading at several watches is the reading at each of them in turn (R91). -/
theorem watchedByAll_eq (d : Delivery (List WatchIx)) :
    ∀ {ws : List WatchIx}, ws.Nodup → ∀ s, watchedByAll d ws s = ws.foldl (fun t w => t.watchTakes d w) s
  | [], _, s => by simp [watchedByAll, withWatches, postAll]
  | w :: ws, distinct, s => by
    obtain ⟨fresh, rest⟩ := List.nodup_cons.mp distinct
    rw [watchedByAll_cons d fresh, watchedByAll_eq d rest, List.foldl_cons]

theorem watchesAfter_eq (d : Delivery (List WatchIx)) (s : State) : watchesAfter d s = s.watchesTake d := by
  have all : ∀ w : WatchIx, allWatches.contains w = true := by decide
  rw [State.watchesTake, ← watchedByAll_eq d (by decide : allWatches.Nodup)]
  simp only [watchedByAll, all, Bool.true_and]
  rfl

/-- Settles O41: each bound watch takes the reading by its own record, in ascending order. -/
theorem watchEvaluationFollowsItsTables : Obligations.WatchEvaluationFollowsItsTables := by
  intro d rest s waiting
  refine ⟨_, by rw [exec, execWatchEvaluation, waiting], ?_⟩
  rw [watchesAfter_eq]
  exact lineTaken_kick _

end Sys2Proof.Proofs
end

section
/-! PROOFS. The end of a conversion in the words of the claims (O38). -/

namespace Sys2Proof.Proofs

open Sys2Proof.Machine Sys2Proof.Safety Sys2Proof.Claims

/-! ### The reading of a conversion (R78, R79) -/

/-- The clamp of R78 takes the nearest value of −32767 to 32767. -/
theorem scaledValue_eq (c : ChannelConfig) (raw : Nat) : scaledValue c raw = c.scale raw := by
  unfold scaledValue ChannelConfig.scale
  dsimp only
  split
  · omega
  · split <;> omega

theorem judge_eq (c : ChannelConfig) (raw : Nat) : c.judge raw = !invalidAt c raw := rfl

theorem readingOf_eq (c : ChannelConfig) (raw : Nat) : readingOf c raw = c.reading raw := by
  unfold readingOf ChannelConfig.reading
  rw [judge_eq, scaledValue_eq]
  cases invalidAt c raw <;> rfl

/-- The SENSOR report tells a change of validity (R80). -/
theorem sensorReport_eq (ch : ChanIx) (raw : Nat) (s : State) :
    s.sensorReport ch raw =
      { s with
        store := if s.scan.records[ch].valid = !invalidAt s.ws.channels[ch] raw then s.store
          else s.store.post s.timeBase
            [.sensor ch (!invalidAt s.ws.channels[ch] raw) raw (readingOf s.ws.channels[ch] raw)] } := by
  unfold State.sensorReport
  dsimp only
  rw [readingOf_eq, judge_eq]
  by_cases stands : s.scan.records[ch].valid = !invalidAt s.ws.channels[ch] raw
  · rw [if_pos stands.symm, if_pos stands]
  · rw [if_neg (Ne.symm stands), if_neg stands]
    rfl

/-! ### The scanner after it (R76, R81 to R84, R86) -/

/-- Entry i of a list that has it is converted. -/
theorem begin_eq_convertingEntry {list : List ChanIx} {i : Nat} (lt : i < list.length) (c : Scanner) :
    c.begin list i = convertingEntry list i c := by
  rw [Scanner.begin_of_lt lt, convertingEntry, List.getD_eq_getElem _ _ lt]

/-- What follows the end of a conversion (R76, R86). -/
theorem scanOn_eq {list : List ChanIx} (some : list ≠ []) (pause : Nat) (restart : Bool) (c : Scanner) :
    scanOn list pause restart c = c.next list pause restart := by
  unfold scanOn
  obtain ⟨rfl, eq⟩ | ⟨rfl, more, eq⟩ | ⟨rfl, last, none, eq⟩ | ⟨rfl, last, some', eq⟩ := c.next_cases list pause restart <;>
    rw [eq]
  · exact (begin_zero_eq some c).symm
  · rw [if_pos ⟨rfl, more⟩, begin_eq_convertingEntry more]
  · rw [if_neg (by omega), if_neg (by omega), begin_zero_eq some]
  · rw [if_neg (by omega), if_pos ⟨rfl, some'⟩]

/-- The reading is handed on to the destinations that are bound to its channel (R82, R83). -/
theorem deliver_eq (w : WorkingSet) (ch : ChanIx) (reading : Reading) (c : Scanner) :
    c.deliver w ch reading =
      { c with
        toLadders := c.toLadders ++
          (if boundLadders w ch ≠ [] then [{ channel := ch, reading := reading, bound := boundLadders w ch }] else [])
        toWatches := c.toWatches ++
          (if boundWatches w ch ≠ [] then [{ channel := ch, reading := reading, bound := boundWatches w ch }] else [])
        toLoads := c.toLoads ++
          (if h : ch.val < 16 then [{ channel := ch, reading := reading, bound := ⟨ch.val, h⟩ }] else []) } := by
  have ladders : w.laddersOn ch = boundLadders w ch := rfl
  have watches : w.watchesOn ch = boundWatches w ch := rfl
  have handed : ∀ {α : Type} (p : Prop) [Decidable p] (ds : List α) (d : α),
      (if p then ds else ds ++ [d]) = ds ++ (if ¬ p then [d] else []) := fun p _ ds d => by
    by_cases h : p <;> simp [h]
  unfold Scanner.deliver
  rw [ladders, watches]
  dsimp only
  rw [handed, handed]
  congr 1
  unfold load?
  by_cases load : ch.val < 16 <;> simp [load]

theorem scanAfter_eq {s : State} (some : s.ws.scanList ≠ []) (ch : ChanIx) (restart : Bool) (raw : Nat) :
    scanAfter ch restart raw s = (s.readingArrives ch restart raw).scan := by
  unfold scanAfter State.readingArrives
  dsimp only
  rw [scanOn_eq some, deliver_eq, readingOf_eq, State.sensorReport_scan]
  rfl

/-- Settles O38: the report, the record, the priming flag, the destinations and the next conversion are those of the model. -/
theorem readingArrivalUpdatesTheChannel : Obligations.ReadingArrivalUpdatesTheChannel := by
  intro raw s settled
  have same : s.takeGrant = s := takeGrant_of_not_GrantDue settled
  refine ⟨fun ch restart converts inRange list => ?_, fun nothing => ?_⟩
  · refine ⟨(s.readingArrives ch restart raw).kick, ?_, ?_⟩
    · change execReadingArrival raw s = _
      simp only [execReadingArrival, same, converts, if_pos inRange]
    · have arrived : s.readingArrives ch restart raw =
          { s with
            scan := scanAfter ch restart raw s
            store := if s.scan.records[ch].valid = !invalidAt s.ws.channels[ch] raw then s.store
              else s.store.post s.timeBase
                [.sensor ch (!invalidAt s.ws.channels[ch] raw) raw (readingOf s.ws.channels[ch] raw)] } := by
        rw [scanAfter_eq list]
        unfold State.readingArrives
        rw [sensorReport_eq]
      rw [← arrived]
      exact lineTaken_kick _
  · change execReadingArrival raw s = _
    obtain stopped | paused | tooHigh := nothing
    · simp only [execReadingArrival, same, stopped]
    · simp only [execReadingArrival, same, paused]
    · simp only [execReadingArrival, same, if_neg (Nat.not_le.mpr tooHigh)]
      split <;> rfl

end Sys2Proof.Proofs
end

section
/-! PROOFS. The requests SET WATCH and ACK WATCH (O32). -/

namespace Sys2Proof.Proofs

open Sys2Proof.Machine Sys2Proof.Safety Sys2Proof.Claims

/-! ### SET WATCH (R99, R100, R174) -/

theorem watch?_val (w : WatchIx) : watch? w.val = some w := dif_pos w.isLt

theorem watch?_eq_none {n : Nat} (h : 15 < n) : watch? n = none := dif_neg (by omega)

theorem keepsChannel_iff {old new : WatchConfig} :
    old.keepsChannel new = true ↔ old.mode ≠ .off ∧ new.mode ≠ .off ∧ old.channel = new.channel := by
  simp only [WatchConfig.keepsChannel, Bool.and_eq_true, decide_eq_true_eq, and_assoc]

/-- An accepted SET WATCH in the words of the claims (R83, R100, R157). -/
theorem configureWatch_eq (w : WatchIx) (c : WatchConfig) (s : State) :
    s.configureWatch w c =
      { reconfigured { s.ws with watches := s.ws.watches.set w c } s with
        watches := s.watches.set w WatchRec.reset
        scan := if s.ws.watches[w].mode ≠ .off ∧ c.mode ≠ .off ∧ s.ws.watches[w].channel = c.channel then s.scan
          else { s.scan with toWatches := notTo w s.scan.toWatches } } := by
  unfold State.configureWatch
  simp only [keepsChannel_iff]
  rfl

section

variable {f : Frame} {s : State}

theorem setWatch_executes (h : MayExecute 0x24#8 f s) (length : f.body.length = 9) :
    (15 < u8 f.body 0 ∨ WatchConfig.ofBody f.body = none →
      ∃ t, exec .setWatch s = .next t ∧ Executed f [0x03#8] false (taken s) t) ∧
    (∀ c, WatchConfig.ofBody f.body = some c → c.mode ≠ .off → c.channel ∉ s.ws.scanList →
      ∃ t, exec .setWatch s = .next t ∧ Executed f [0x03#8] false (taken s) t) ∧
    ∀ (w : WatchIx) (c : WatchConfig), u8 f.body 0 = w.val → WatchConfig.ofBody f.body = some c →
      (c.mode ≠ .off → c.channel ∈ s.ws.scanList) →
      ∃ t, exec .setWatch s = .next t ∧ Executed f [0x00#8] false ((taken s).configureWatch w c) t := by
  have fits : ¬ f.body.length ≠ 9 := not_not_intro length
  have refused : answerSetWatch f.body (taken s) = Answer.refuse .badField (taken s) →
      ∃ t, exec .setWatch s = .next t ∧ Executed f [0x03#8] false (taken s) t := fun answer =>
    ⟨_, rfl, executed_takeRequest h answerSetWatch answer⟩
  refine ⟨fun bad => refused ?_, fun c config active off => refused ?_, fun w c number config listed => ?_⟩
  · rw [answerSetWatch, if_neg fits]
    obtain noWatch | noConfig := bad
    · rw [watch?_eq_none noWatch]
    · rw [noConfig]
      cases watch? (u8 f.body 0) <;> rfl
  · have missing : ¬ (c.mode = .off ∨ (taken s).ws.scanList.contains c.channel = true) := by
      rw [List.contains_iff_mem]
      exact not_or_intro active off
    rw [answerSetWatch, if_neg fits, config]
    cases watch? (u8 f.body 0) with
    | none => rfl
    | some w => exact if_neg missing
  · have scanned : c.mode = .off ∨ (taken s).ws.scanList.contains c.channel = true := by
      rw [List.contains_iff_mem]
      exact or_iff_not_imp_left.mpr listed
    have answer : answerSetWatch f.body (taken s) = Answer.ok ((taken s).configureWatch w c) [] := by
      rw [answerSetWatch, if_neg fits, number, watch?_val, config]
      exact if_pos scanned
    exact ⟨_, rfl, executed_takeRequest h answerSetWatch answer⟩

/-! ### ACK WATCH (R97, R175) -/

theorem ackWatch_executes {b : Byte} (h : MayExecute 0x25#8 f s) (body : f.body = [b]) :
    (15 < b.toNat → ∃ t, exec .ackWatch s = .next t ∧ Executed f [0x03#8] false (taken s) t) ∧
    (∀ w : WatchIx, b.toNat = w.val → s.ws.watches[w].mode ≠ .latched →
      ∃ t, exec .ackWatch s = .next t ∧ Executed f [0x04#8] false (taken s) t) ∧
    ∀ w : WatchIx, b.toNat = w.val → s.ws.watches[w].mode = .latched →
      ∃ t, exec .ackWatch s = .next t ∧ Executed f [0x00#8] false ((taken s).unlatch w) t := by
  have number : u8 f.body 0 = b.toNat := by rw [body]; rfl
  have fits : ¬ f.body.length ≠ 1 := by rw [body]; exact not_not_intro rfl
  have executes : ∀ {u : State} {reply : List Byte}, answerAckWatch f.body (taken s) = { state := u, body := reply } →
      ∃ t, exec .ackWatch s = .next t ∧ Executed f reply false u t := fun answer =>
    ⟨_, rfl, executed_takeRequest h answerAckWatch answer⟩
  refine ⟨fun noWatch => executes ?_, fun w is mode => executes ?_, fun w is mode => executes ?_⟩ <;>
    rw [answerAckWatch, if_neg fits, number]
  · rw [watch?_eq_none noWatch]; rfl
  · rw [is, watch?_val]; exact if_neg mode
  · rw [is, watch?_val]; exact if_pos mode

end

/-- Settles O32: R99's checks and the model's replacement of a watch; ACK WATCH by number and mode. -/
theorem setWatchRearmsAndAckWatchUnlatches : Obligations.SetWatchRearmsAndAckWatchUnlatches := by
  refine ⟨fun f s h length => ?_, fun f b s h body => ackWatch_executes h body⟩
  obtain ⟨bad, off, accepted⟩ := setWatch_executes h length
  refine ⟨bad, off, fun w c number config listed => ?_⟩
  have replaced := accepted w c number config listed
  rw [configureWatch_eq] at replaced
  exact replaced

end Sys2Proof.Proofs
end

section
/-! PROOFS. The six READ requests (O35). -/

namespace Sys2Proof.Proofs

open Sys2Proof.Machine Sys2Proof.Safety Sys2Proof.Claims

/-! ### The bytes that are read (R170, R173, R176, R178) -/

theorem running_eq (t : Timer) : decide (t ≠ .stopped) = t.isRunning := by
  cases t <;> simp

/-- The unit's part of READ SEVERITY (R170; log 13). -/
theorem severityBytes_eq (s : State) : severityBytes s = s.unitFields := by
  have ladders : (allLadders.flatMap fun k => yesNoByte s.ws.ladders[k].enabled ++ s.sev.ladders[k].bytes) =
      yesNoByte s.ws.ladders[0].enabled ++ streakBytes s.sev.ladders[0] ++
        (yesNoByte s.ws.ladders[1].enabled ++ streakBytes s.sev.ladders[1] ++
          (yesNoByte s.ws.ladders[2].enabled ++ streakBytes s.sev.ladders[2] ++
            (yesNoByte s.ws.ladders[3].enabled ++ streakBytes s.sev.ladders[3] ++ []))) := rfl
  have cutoff : s.ws.cutoff.toList.flatMap byte =
      byte s.ws.cutoff[0] ++ (byte s.ws.cutoff[1] ++ (byte s.ws.cutoff[2] ++ (byte s.ws.cutoff[3] ++ []))) := by
    rw [vector4_toList]; rfl
  unfold severityBytes State.unitFields
  rw [ladders, cutoff, running_eq, timeLeft_eq]
  simp only [List.append_nil, List.append_assoc]

theorem sentCount_eq (st : Store) : st.sentCount = sentIn st.records := List.countP_eq_length_filter.symm

theorem postedCount_eq (st : Store) : st.postedCount = st.records.countP fun r => !r.sent := List.countP_eq_length_filter.symm

/-- The fields of READ SYSTEM (R178; log 13). -/
theorem systemBytes_eq (s : State) : systemBytes s = s.systemFields := by
  have save : decide (s.prof.save ≠ none) = s.prof.save.isSome := by cases s.prof.save <;> rfl
  unfold systemBytes State.systemFields
  rw [save, running_eq, timeLeft_eq, sentCount_eq, postedCount_eq]
  cases s.seq.slot <;> rfl

/-- The fields of a part of a list, entry by entry. -/
theorem flatMap_take {α β : Type} (f : α → List β) :
    ∀ (n : Nat) (l : List α), (l.take n).flatMap f = (List.range n).flatMap fun i => match l[i]? with
      | some x => f x
      | none => []
  | 0, l => by simp
  | n + 1, [] => by simp
  | n + 1, x :: l => by
    rw [List.take_succ_cons, List.flatMap_cons, flatMap_take f n l, List.range_succ_eq_map, List.flatMap_cons, List.flatMap_map]
    simp

/-- The channel records of READ CHANNELS (R173). -/
theorem channelFields_eq (s : State) (first count : Nat) :
    ((s.scan.records.toList.drop first).take count).flatMap ChannelRec.bytes =
      (List.range count).flatMap fun i =>
        match s.scan.records.toList[first + i]? with
        | some r => readingBytes r.latest ++ byte (r.valid.toNat + 2 * r.read.toNat) ++ le16 r.raw ++ le32 r.timestamp.toNat
        | none => [] := by
  rw [flatMap_take]
  simp only [List.getElem?_drop]
  refine congrArg (List.flatMap · (List.range count)) (funext fun i => ?_)
  cases s.scan.records.toList[first + i]? with
  | none => rfl
  | some r => simp [ChannelRec.bytes, flagBits]

/-! ### The requests by number and part -/

section

variable {f : Frame} {s : State} {b : Byte}

/-- A body of one byte. -/
theorem u8_one (body : f.body = [b]) : u8 f.body 0 = b.toNat := by rw [body]; rfl

theorem length_one (body : f.body = [b]) : ¬ f.body.length ≠ 1 := by rw [body]; exact not_not_intro rfl

theorem readLoad_executes (h : MayExecute 0x13#8 f s) (body : f.body = [b]) :
    (15 < b.toNat → ∃ t, exec .readLoad s = .next t ∧ Executed f [0x03#8] false (taken s) t) ∧
    ∀ n : LoadIx, b.toNat = n.val →
      ∃ t, exec .readLoad s = .next t ∧ Executed f (0x00#8 :: s.loadFields n) false (taken s) t := by
  refine ⟨fun noLoad => ⟨_, rfl, executed_takeRequest h answerReadLoad ?_⟩,
    fun n is => ⟨_, rfl, executed_takeRequest h answerReadLoad ?_⟩⟩ <;>
    rw [answerReadLoad, if_neg (length_one body), u8_one body]
  · rw [load?, dif_neg (by omega)]; rfl
  · rw [is, load?_val]; rfl

theorem readSeverity_executes (h : MayExecute 0x1B#8 f s) (body : f.body = [b]) :
    (4 < b.toNat → ∃ t, exec .readSeverity s = .next t ∧ Executed f [0x03#8] false (taken s) t) ∧
    (b.toNat = 4 → ∃ t, exec .readSeverity s = .next t ∧ Executed f (0x00#8 :: severityBytes s) false (taken s) t) ∧
    ∀ k : LadderIx, b.toNat = k.val →
      ∃ t, exec .readSeverity s = .next t ∧
        Executed f (0x00#8 :: (ladderBytes s.ws.ladders[k] ++ streakBytes s.sev.ladders[k])) false (taken s) t := by
  have noLadder : ∀ {n : Nat}, 3 < n → ladder? n = none := fun lt => dif_neg (by omega)
  refine ⟨fun beyond => ⟨_, rfl, executed_takeRequest h answerReadSeverity ?_⟩,
    fun unit => ⟨_, rfl, executed_takeRequest h answerReadSeverity ?_⟩,
    fun k is => ⟨_, rfl, executed_takeRequest h answerReadSeverity ?_⟩⟩ <;>
    rw [answerReadSeverity, if_neg (length_one body), u8_one body]
  · rw [noLadder (by omega)]
    exact if_neg (by omega)
  · rw [noLadder (by omega), severityBytes_eq]
    exact if_pos unit
  · rw [is, ladder?_val, ladderBytes_eq]; rfl

theorem readChannels_executes {first count : Byte} (h : MayExecute 0x22#8 f s) (body : f.body = [first, count]) :
    (23 < first.toNat ∨ count.toNat = 0 ∨ 10 < count.toNat ∨ 24 < first.toNat + count.toNat →
      ∃ t, exec .readChannels s = .next t ∧ Executed f [0x03#8] false (taken s) t) ∧
    (first.toNat ≤ 23 → 1 ≤ count.toNat → count.toNat ≤ 10 → first.toNat + count.toNat ≤ 24 →
      ∃ t, exec .readChannels s = .next t ∧
        Executed f
          ([0x00#8, first, count] ++
            ((s.scan.records.toList.drop first.toNat).take count.toNat).flatMap ChannelRec.bytes) false (taken s) t) := by
  have fits : ¬ f.body.length ≠ 2 := by rw [body]; exact not_not_intro rfl
  have from_ : u8 f.body 0 = first.toNat := by rw [body]; rfl
  have many : u8 f.body 1 = count.toNat := by rw [body]; rfl
  refine ⟨fun bad => ⟨_, rfl, executed_takeRequest h answerReadChannels ?_⟩,
    fun low some few high => ⟨_, rfl, executed_takeRequest h answerReadChannels ?_⟩⟩ <;>
    rw [answerReadChannels, if_neg fits, from_, many]
  · exact if_neg (by omega)
  · rw [byte_toNat, byte_toNat]
    exact if_pos (by omega)

theorem readWatch_executes (h : MayExecute 0x26#8 f s) (body : f.body = [b]) :
    (15 < b.toNat → ∃ t, exec .readWatch s = .next t ∧ Executed f [0x03#8] false (taken s) t) ∧
    ∀ w : WatchIx, b.toNat = w.val →
      ∃ t, exec .readWatch s = .next t ∧ Executed f (0x00#8 :: s.watchFields w) false (taken s) t := by
  refine ⟨fun noWatch => ⟨_, rfl, executed_takeRequest h answerReadWatch ?_⟩,
    fun w is => ⟨_, rfl, executed_takeRequest h answerReadWatch ?_⟩⟩ <;>
    rw [answerReadWatch, if_neg (length_one body), u8_one body]
  · rw [watch?_eq_none noWatch]; rfl
  · rw [is, watch?_val]; rfl

theorem readSystem_executes (h : MayExecute 0x29#8 f s) (body : f.body = []) :
    ∃ t, exec .readSystem s = .next t ∧ Executed f (0x00#8 :: systemBytes s) false (taken s) t := by
  have answer : answerReadSystem f.body (taken s) = Answer.ok (taken s) s.systemFields := by rw [body]; rfl
  rw [systemBytes_eq]
  exact ⟨_, rfl, executed_takeRequest h answerReadSystem answer⟩

theorem readLink_executes (h : MayExecute 0x2A#8 f s) (body : f.body = [b]) :
    (1 < b.toNat → ∃ t, exec .readLink s = .next t ∧ Executed f [0x03#8] false (taken s) t) ∧
    (b.toNat = 0 → ∃ t, exec .readLink s = .next t ∧ Executed f (0x00#8 :: s.link.stats.bytes) false (taken s) t) ∧
    (b.toNat = 1 →
      ∃ t, exec .readLink s = .next t ∧
        Executed f (0x00#8 :: s.link.stats.bytes) false (withStats LinkStats.zero (taken s)) t) := by
  refine ⟨fun bad => ⟨_, rfl, executed_takeRequest h answerReadLink ?_⟩,
    fun no => ⟨_, rfl, executed_takeRequest h answerReadLink ?_⟩,
    fun yes => ⟨_, rfl, executed_takeRequest h answerReadLink ?_⟩⟩ <;>
    rw [answerReadLink, if_neg (length_one body), u8_one body]
  · rw [yesNo?_eq_none (by omega) (by omega)]; rfl
  · rw [no]; rfl
  · rw [yes]; rfl

end

/-- Settles O35: each READ request by its number, and the bytes of its fields in order. -/
theorem readRequestsAnswerAndChangeNothing : Obligations.ReadRequestsAnswerAndChangeNothing := by
  refine ⟨fun f b s h body => readLoad_executes h body, fun f b s h body => readSeverity_executes h body,
    fun f first count s h body => ?_, fun f b s h body => ?_, fun f s h body => readSystem_executes h body,
    fun f b s h body => ?_⟩
  · obtain ⟨refused, read⟩ := readChannels_executes h body
    rw [channelFields_eq] at read
    exact ⟨refused, read⟩
  · obtain ⟨refused, read⟩ := readWatch_executes h body
    exact ⟨refused, read⟩
  · exact readLink_executes h body

end Sys2Proof.Proofs
end

section
/-! PROOFS. The few moves that all commands make on the report store, and what each of them keeps of its laws. -/

namespace Sys2Proof.Proofs

open Sys2Proof.Machine Sys2Proof.Safety Sys2Proof.Claims

/-! ### What the posting has fixed of the records (R103, R106, R107, R201) -/

/-- Whole reports, one record or the three of a SNAPSHOT at a time (R103, R107). -/
inductive WholeRun : List Record → Prop
  | nil : WholeRun []
  | single {a : Record} {rest : List Record} (first : a.first = true) (last : a.last = true)
      (plain : isSnapshot a.payload = false) (run : WholeRun rest) : WholeRun (a :: rest)
  | snapshot {a b c : Record} {rest : List Record} (first : a.first = true ∧ a.last = false ∧ isSnapshot a.payload = true)
      (middle : b.first = false ∧ b.last = false ∧ isSnapshot b.payload = true)
      (last : c.first = false ∧ c.last = true ∧ isSnapshot c.payload = true) (run : WholeRun rest) :
      WholeRun (a :: b :: c :: rest)

theorem wholeRun_iff {rs : List Record} : wholeRun rs = true ↔ WholeRun rs := by
  constructor
  · intro h
    induction rs using wholeRun.induct with
    | case1 => exact .nil
    | case2 a =>
      simp only [wholeRun, Bool.and_eq_true, Bool.not_eq_true'] at h
      exact .single h.1.1 h.1.2 h.2 .nil
    | case3 a b =>
      simp only [wholeRun, Bool.and_eq_true, Bool.not_eq_true', and_assoc] at h
      obtain ⟨first, last, plain, first', last', plain'⟩ := h
      exact .single first last plain (.single first' last' plain' .nil)
    | case4 a b c rest snap ih =>
      simp only [wholeRun, snap, if_true, Bool.and_eq_true, Bool.not_eq_true', and_assoc] at h
      obtain ⟨a1, a2, b1, b2, b3, c1, c2, c3, run⟩ := h
      exact .snapshot ⟨a1, a2, snap⟩ ⟨b2, b3, b1⟩ ⟨c2, c3, c1⟩ (ih run)
    | case5 a b c rest plain ih =>
      rw [wholeRun, if_neg plain, Bool.and_eq_true, Bool.and_eq_true] at h
      obtain ⟨⟨first, last⟩, run⟩ := h
      exact .single first last (Bool.eq_false_iff.mpr plain) (ih run)
  · intro h
    induction h with
    | nil => rfl
    | @single a rest first last plain run ih =>
      match rest, ih with
      | [], _ => simp [wholeRun, first, last, plain]
      | [b], ih => simpa [wholeRun, first, last, plain] using ih
      | b :: c :: rest, ih => simp [wholeRun, first, last, plain, ih]
    | snapshot a b c run ih => simp [wholeRun, a, b, c, ih]

namespace WholeRun

/-- Whole reports behind whole reports. -/
theorem append {rs new : List Record} (h : WholeRun rs) (g : WholeRun new) : WholeRun (rs ++ new) := by
  induction h with
  | nil => exact g
  | single first last plain _ ih => exact .single first last plain ih
  | snapshot a b c _ ih => exact .snapshot a b c ih

/-- A front part that ends in a LAST record is made of whole reports itself, so that the rest is (R117). -/
theorem rest {freed kept : List Record} (h : WholeRun (freed ++ kept)) (ends : ∀ x ∈ freed.getLast?, x.last = true) :
    WholeRun kept := by
  generalize all : freed ++ kept = rs at h
  induction h generalizing freed with
  | nil => rw [(List.append_eq_nil_iff.mp all).2]; exact .nil
  | @single a rest first last plain run ih =>
    match freed, all with
    | [], all => rw [show kept = a :: rest from all]; exact .single first last plain run
    | _ :: freed, all =>
      refine ih (freed := freed) (fun x mem => ends x ?_) (List.cons.inj all).2
      exact List.mem_getLast?_cons mem
  | @snapshot a b c rest first middle last run ih =>
    match freed, all with
    | [], all => rw [show kept = a :: b :: c :: rest from all]; exact .snapshot first middle last run
    | [x], all =>
      obtain ⟨rfl, -⟩ := List.cons.inj all
      exact absurd (first.2.1.symm.trans (ends _ rfl)) (by decide)
    | [x, y], all =>
      obtain ⟨-, all⟩ := List.cons.inj all
      obtain ⟨rfl, -⟩ := List.cons.inj all
      exact absurd (middle.2.1.symm.trans (ends _ rfl)) (by decide)
    | x :: y :: z :: freed, all =>
      obtain ⟨-, all⟩ := List.cons.inj all
      obtain ⟨-, all⟩ := List.cons.inj all
      refine ih (freed := freed) (fun x mem => ends x ?_) (List.cons.inj all).2
      exact List.mem_getLast?_cons (List.mem_getLast?_cons (List.mem_getLast?_cons mem))

/-- Sending and requeueing change no mark of a report (R103). -/
theorem of_posting {rs : List Record} (h : WholeRun rs) {rs' : List Record} (same : rs'.map posting = rs.map posting) :
    WholeRun rs' := by
  induction h generalizing rs' with
  | nil => rw [List.map_eq_nil_iff.mp same]; exact .nil
  | single first last plain _ ih =>
    obtain ⟨a', rest', rfl, ha, rest⟩ := List.map_eq_cons_iff.mp same
    obtain ⟨-, first', last', -, -, payload, -⟩ := Record.mk.inj ha
    exact .single (first'.trans first) (last'.trans last) (payload ▸ plain) (ih rest)
  | snapshot a b c _ ih =>
    obtain ⟨a', rest', rfl, ha, rest⟩ := List.map_eq_cons_iff.mp same
    obtain ⟨b', rest', rfl, hb, rest⟩ := List.map_eq_cons_iff.mp rest
    obtain ⟨c', rest', rfl, hc, rest⟩ := List.map_eq_cons_iff.mp rest
    obtain ⟨-, fa, la, -, -, pa, -⟩ := Record.mk.inj ha
    obtain ⟨-, fb, lb, -, -, pb, -⟩ := Record.mk.inj hb
    obtain ⟨-, fc, lc, -, -, pc, -⟩ := Record.mk.inj hc
    refine .snapshot ?_ ?_ ?_ (ih rest)
    · rw [fa, la, pa]; exact a
    · rw [fb, lb, pb]; exact b
    · rw [fc, lc, pc]; exact c

end WholeRun

/-- Consecutive numbers are those of the posting (R106). -/
theorem numberedUpTo_posting (counter : Word) (rs : List Record) :
    numberedUpTo counter (rs.map posting) = numberedUpTo counter rs := by
  induction rs with
  | nil => rfl
  | cons r rest ih => simp [numberedUpTo, ih, posting]

/-- New records under the next numbers continue the run (R106). -/
theorem numberedUpTo_append {counter : Word} {rs new : List Record} (h : numberedUpTo counter rs = true)
    (g : numberedUpTo (counter + BitVec.ofNat 16 new.length) new = true) :
    numberedUpTo (counter + BitVec.ofNat 16 new.length) (rs ++ new) = true := by
  induction rs with
  | nil => exact g
  | cons r rest ih =>
    simp only [numberedUpTo, Bool.and_eq_true, decide_eq_true_eq] at h
    obtain ⟨number, run⟩ := h
    simp only [List.cons_append, numberedUpTo, Bool.and_eq_true, decide_eq_true_eq, List.length_append]
    refine ⟨?_, ih run⟩
    rw [← number, BitVec.add_assoc, ← BitVec.ofNat_add]
    congr 2
    omega

theorem numberedUpTo_rest {counter : Word} {freed kept : List Record} (h : numberedUpTo counter (freed ++ kept) = true) :
    numberedUpTo counter kept = true := by
  induction freed with
  | nil => exact h
  | cons r rest ih => exact ih (Bool.and_eq_true_iff.mp h).2

/-- SENT before POSTED: no POSTED record stands before a SENT one (R106). -/
theorem sentFirst_iff {rs : List Record} : sentFirst rs = true ↔ rs.Pairwise fun a b => a.sent = true ∨ b.sent = false := by
  induction rs with
  | nil => simp [sentFirst]
  | cons r rest ih =>
    rw [List.pairwise_cons, ← ih]
    cases sent : r.sent <;> simp [sentFirst, sent]

/-- A record has 24 bytes where the fields of its payload fit in 16 (R201, R202). -/
theorem record_bytes_length {r : Record} (fits : r.payload.fields.length ≤ 16) : r.bytes.length = 24 := by
  simp only [Record.bytes, Payload.bytes, padTo, List.length_append, List.length_replicate, le16, le32, byte, List.length_cons,
    List.length_nil]
  omega

theorem record_bytes_posting (r : Record) : (posting r).bytes.length = r.bytes.length := by
  simp [Record.bytes, posting, byte]

/-! ### Reports (R103 to R105) -/

/-- The payloads of one report: one that is no SNAPSHOT's, or the three of a SNAPSHOT with eight readings each (R103, R105). -/
inductive IsReport : List Payload → Prop
  | single {p : Payload} (plain : isSnapshot p = false) : IsReport [p]
  | snapshot {a b c : List Reading} (eight : a.length = 8 ∧ b.length = 8 ∧ c.length = 8) :
      IsReport [.snapshot a, .snapshot b, .snapshot c]

theorem readingBytes_length (r : Reading) : (readingBytes r).length = 2 := by cases r <;> rfl

theorem snapshot_fields_length (values : List Reading) : (Payload.snapshot values).fields.length = 2 * values.length := by
  simp [Payload.fields, List.length_flatMap, readingBytes_length, Nat.mul_comm]

theorem fields_length_le {p : Payload} (plain : isSnapshot p = false) : p.fields.length ≤ 16 := by
  cases p with
  | snapshot => simp [isSnapshot] at plain
  | _ => simp [Payload.fields, byte, le16, le32, sle16, yesNoByte, readingBytes_length]

namespace IsReport

variable {ps : List Payload}

/-- The fields of each payload fit in the 16 bytes of a record (R201, R202). -/
theorem fits (h : IsReport ps) : ∀ p ∈ ps, p.fields.length ≤ 16 := by
  cases h with
  | single plain => simpa using fields_length_le plain
  | snapshot eight => simp [snapshot_fields_length, eight]

theorem wholeRun (h : IsReport ps) (time : DWord) (number : Word) : WholeRun (reportRecords time true number ps) := by
  cases h with
  | single plain => exact .single rfl rfl plain .nil
  | snapshot => exact .snapshot ⟨rfl, rfl, rfl⟩ ⟨rfl, rfl, rfl⟩ ⟨rfl, rfl, rfl⟩ .nil

end IsReport

/-- The records of a report carry the numbers from the counter on (R106). -/
theorem reportRecords_numbered (time : DWord) : ∀ (first : Bool) (number : Word) (ps : List Payload),
    numberedUpTo (number + BitVec.ofNat 16 ps.length) (reportRecords time first number ps) = true
  | _, _, [] => rfl
  | _, _, [_] => by simp [reportRecords, numberedUpTo]
  | _, number, _ :: q :: rest => by
    have run := reportRecords_numbered time false (number + 1) (q :: rest)
    have counter : number + 1 + BitVec.ofNat 16 (rest.length + 1) = number + BitVec.ofNat 16 (rest.length + 1 + 1) := by
      rw [BitVec.add_assoc, Nat.add_comm (rest.length + 1) 1, BitVec.ofNat_add 1]; rfl
    rw [List.length_cons, counter] at run
    simp only [reportRecords, numberedUpTo, reportRecords_length, List.length_cons, decide_true, Bool.true_and]
    exact run

/-- The records of a report are POSTED and carry its payloads (R103, R106). -/
theorem reportRecords_posted (time : DWord) : ∀ (first : Bool) (number : Word) (ps : List Payload),
    ∀ r ∈ reportRecords time first number ps, r.sent = false ∧ r.payload ∈ ps
  | _, _, [], _, mem => absurd mem List.not_mem_nil
  | _, _, [p], r, mem => by
    rw [List.mem_singleton.mp mem]
    exact ⟨rfl, List.mem_singleton_self p⟩
  | _, _, p :: q :: rest, r, mem => by
    rcases List.mem_cons.mp mem with rfl | mem
    · exact ⟨rfl, List.mem_cons_self⟩
    · obtain ⟨posted, payload⟩ := reportRecords_posted time _ _ (q :: rest) r mem
      exact ⟨posted, List.mem_cons_of_mem p payload⟩

/-! ### The laws, and what a posting keeps of them (R102, R106, R107, R109, R111) -/

/-- The laws of the report store, but that a loss is told as soon as a slot is FREE (R109). -/
structure StoreLaw (st : Store) : Prop where
  room : st.records.length ≤ 64
  numbered : numberedUpTo st.counter st.records = true
  ordered : st.records.Pairwise fun a b => a.sent = true ∨ b.sent = false
  whole : WholeRun st.records
  sized : ∀ r ∈ st.records, r.bytes.length = 24
  credit : st.credits + sentIn st.records ≤ 64
  counted : st.lost ≤ 65535

/-- A loss stands untold only while no slot is FREE (R109). -/
def LossTold (st : Store) : Prop := 0 < st.lost → st.records.length = 64

theorem storeOk_iff {st : Store} : StoreOk st ↔ StoreLaw st ∧ LossTold st := by
  simp only [StoreOk, sentFirst_iff, wholeRun_iff, sentCount_eq, LossTold]
  exact ⟨fun ⟨room, numbered, ordered, whole, sized, credit, told, counted⟩ =>
      ⟨⟨room, numbered, ordered, whole, sized, credit, counted⟩, told⟩,
    fun ⟨⟨room, numbered, ordered, whole, sized, credit, counted⟩, told⟩ =>
      ⟨room, numbered, ordered, whole, sized, credit, told, counted⟩⟩

theorem free_eq (st : Store) : st.free = 64 - st.records.length := rfl

/-- No SENT record is among POSTED ones. -/
theorem sentIn_posted {rs : List Record} (posted : ∀ r ∈ rs, r.sent = false) : sentIn rs = 0 :=
  List.countP_eq_zero.mpr fun r mem => by simp [posted r mem]

/-- The record that is sent is one SENT record more. -/
theorem sentIn_send {older newer : List Record} {r : Record} (posted : r.sent = false) :
    sentIn (older ++ { r with sent := true } :: newer) = sentIn (older ++ r :: newer) + 1 := by
  simp [sentIn, posted, Nat.add_assoc]

namespace StoreLaw

variable {st : Store}

/-- A report placed in FREE slots (R106, R107). -/
theorem append (h : StoreLaw st) (time : DWord) {ps : List Payload} (report : IsReport ps) (fits : ps.length ≤ st.free) :
    StoreLaw { st.append time ps with lost := 0 } where
  room := by
    have room := h.room
    rw [free_eq] at fits
    simp only [Store.append, List.length_append, reportRecords_length]
    omega
  numbered := by
    have run := reportRecords_numbered time true st.counter ps
    rw [← reportRecords_length time ps true st.counter] at run
    have numbered := numberedUpTo_append h.numbered run
    rwa [reportRecords_length] at numbered
  ordered := List.pairwise_append.mpr
    ⟨h.ordered, List.pairwise_of_forall_mem_list fun _ _ _ mem => .inr (reportRecords_posted time _ _ _ _ mem).1,
      fun _ _ _ mem => .inr (reportRecords_posted time _ _ _ _ mem).1⟩
  whole := h.whole.append (report.wholeRun time st.counter)
  sized r mem := by
    rcases List.mem_append.mp mem with mem | mem
    · exact h.sized r mem
    · exact record_bytes_length (report.fits _ (reportRecords_posted time _ _ _ r mem).2)
  credit := by
    have posted := sentIn_posted fun r mem => (reportRecords_posted time true st.counter ps r mem).1
    have credit := h.credit
    simp only [sentIn, Store.append, List.countP_append] at posted credit ⊢
    omega
  counted := Nat.zero_le _

/-- R109 leaves no loss untold where a slot is FREE. -/
theorem settleLoss (h : StoreLaw st) (time : DWord) : StoreOk (st.settleLoss time) := by
  rw [storeOk_iff]
  obtain ⟨none | full, eq⟩ | ⟨-, free, eq⟩ := st.settleLoss_cases time <;> rw [eq]
  · exact ⟨h, fun lost => absurd none (Nat.ne_of_gt lost)⟩
  · have room := h.room
    rw [free_eq] at full
    exact ⟨h, fun _ => by omega⟩
  · exact ⟨h.append time (.single rfl) free, fun lost => absurd rfl (Nat.ne_of_gt lost)⟩

end StoreLaw

/-! ### The moves -/

/-- One move of the report store at which no record leaves it. -/
inductive StoreMove : Store → Store → Prop
  | post {ps : List Payload} (report : IsReport ps) (time : DWord) (st : Store) : StoreMove st (st.post time ps)
  | requeue (st : Store) : StoreMove st st.requeue
  | lend {credits : Nat} {st : Store} (fits : credits ≤ 64 - st.sentCount) : StoreMove st { st with credits := credits }
  | send {st : Store} {older newer : List Record} {r : Record} (credit : 0 < st.credits)
      (records : st.records = older ++ r :: newer) (sent : ∀ x ∈ older, x.sent = true) (posted : r.sent = false) :
      StoreMove st { st with records := older ++ { r with sent := true } :: newer, credits := st.credits - 1 }

/-- One move after another. -/
abbrev StoreMoves : Store → Store → Prop := Relation.ReflTransGen StoreMove

/-- The laws that look at what a posting has fixed alone hold of records that differ in nothing else (R103). -/
theorem StoreLaw.of_posting {st : Store} (h : StoreLaw st) {rs : List Record} (same : rs.map posting = st.records.map posting)
    {credits : Nat} (ordered : rs.Pairwise fun a b => a.sent = true ∨ b.sent = false) (credit : credits + sentIn rs ≤ 64) :
    StoreLaw { st with records := rs, credits := credits } where
  room := by
    have length := congrArg List.length same
    rw [List.length_map, List.length_map] at length
    exact length ▸ h.room
  numbered := by rw [← numberedUpTo_posting, same, numberedUpTo_posting]; exact h.numbered
  ordered := ordered
  whole := h.whole.of_posting same
  sized r mem := by
    obtain ⟨x, found, eq⟩ := List.mem_map.mp (same ▸ List.mem_map_of_mem (f := posting) mem)
    rw [← record_bytes_posting, ← eq, record_bytes_posting]
    exact h.sized x found
  credit := credit
  counted := h.counted

theorem requeue_posting (r : Record) : posting r.requeue = posting r := by
  unfold Record.requeue
  split <;> rfl

theorem requeue_sent (r : Record) : r.requeue.sent = false := by
  unfold Record.requeue
  split
  · rfl
  · simp_all

/-- Every move keeps the laws of the report store. -/
theorem StoreMove.storeOk {st st' : Store} (move : StoreMove st st') (ok : StoreOk st) : StoreOk st' := by
  obtain ⟨h, told⟩ := storeOk_iff.mp ok
  cases move with
  | post report time =>
    unfold Store.post
    split
    case isTrue room =>
      obtain ⟨none, fits⟩ := room
      refine storeOk_iff.mpr ⟨?_, fun lost => absurd none (Nat.ne_of_gt lost)⟩
      have posted := h.append time report fits
      rwa [← none] at posted
    case isFalse =>
      exact StoreLaw.settleLoss (st := { st with lost := bump st.lost }) { h with counted := Nat.min_le_left _ _ } time
  | requeue =>
    have posted : ∀ r ∈ st.records.map Record.requeue, r.sent = false := fun r mem => by
      obtain ⟨x, -, rfl⟩ := List.mem_map.mp mem
      exact requeue_sent x
    refine storeOk_iff.mpr ⟨h.of_posting (credits := st.credits) ?_ ?_ ?_, fun lost => ?_⟩
    · exact (List.map_map ..).trans (List.map_congr_left fun r _ => requeue_posting r)
    · exact List.pairwise_of_forall_mem_list fun _ _ _ mem => .inr (posted _ mem)
    · rw [sentIn_posted posted]
      exact Nat.le_trans (Nat.le_add_right _ _) h.credit
    · exact (List.length_map _).trans (told lost)
  | lend fits =>
    rw [sentCount_eq] at fits
    have credit := h.credit
    exact storeOk_iff.mpr ⟨{ h with credit := by dsimp only; omega }, told⟩
  | @send _ older newer r credit records sent posted =>
    have ordered := h.ordered
    have bound := h.credit
    rw [records, List.pairwise_append, List.pairwise_cons] at ordered
    obtain ⟨before, ⟨-, after⟩, -⟩ := ordered
    refine storeOk_iff.mpr ⟨h.of_posting ?_ ?_ ?_, fun lost => ?_⟩
    · rw [records, List.map_append, List.map_append]; rfl
    · exact List.pairwise_append.mpr ⟨before, List.pairwise_cons.mpr ⟨fun _ _ => .inl rfl, after⟩,
        fun x mem _ _ => .inl (sent x mem)⟩
    · rw [records] at bound
      rw [sentIn_send posted]
      omega
    · have full := told lost
      rw [records] at full
      simpa using full

theorem StoreMoves.storeOk {st st' : Store} (moves : StoreMoves st st') (ok : StoreOk st) : StoreOk st' := by
  induction moves with
  | refl => exact ok
  | tail _ move ih => exact move.storeOk ih

/-! ### An ACK (R116, R117) -/

/-- The records that an ACK frees stand at the front, were SENT, and are whole reports. -/
theorem ackCount_spec {number : Word} {st : Store} {n : Nat} (count : st.ackCount number = some n) (ok : StoreOk st) :
    (∀ r ∈ st.records.take n, r.sent = true) ∧ WholeRun (st.records.drop n) := by
  obtain ⟨h, -⟩ := storeOk_iff.mp ok
  unfold Store.ackCount at count
  split at count
  case h_2 => exact absurd count (by simp)
  case h_1 front found =>
    obtain ⟨older, r, newer, records, rfl, sent, -, -⟩ := upToNumber_some found
    obtain ⟨freed, kept, split, length, -, ends⟩ := wholeReports_spec (older ++ [r])
    obtain rfl : freed.length = n := length.trans (Option.some.inj count)
    have parts : st.records = freed ++ (kept ++ newer) := by
      rw [records, ← List.append_assoc, ← split, List.append_assoc, List.singleton_append]
    have ordered := h.ordered
    rw [records, List.pairwise_append] at ordered
    obtain ⟨-, -, before⟩ := ordered
    rw [parts, List.take_left, List.drop_left]
    refine ⟨fun x mem => ?_, WholeRun.rest (parts ▸ h.whole) ends⟩
    have among : x ∈ older ++ [r] := split ▸ List.mem_append_left kept mem
    rcases List.mem_append.mp among with old | last
    · exact (before x old r List.mem_cons_self).resolve_right (by simp [sent])
    · rw [List.mem_singleton.mp last]; exact sent

/-- An ACK keeps the laws of the report store. -/
theorem storeOk_freeOldest {number : Word} {st : Store} {n : Nat} (count : st.ackCount number = some n) (ok : StoreOk st)
    (time : DWord) : StoreOk (st.freeOldest time n) := by
  obtain ⟨h, -⟩ := storeOk_iff.mp ok
  obtain ⟨-, whole⟩ := ackCount_spec count ok
  unfold Store.freeOldest
  split
  · exact ok
  · refine StoreLaw.settleLoss (st := { st with records := st.records.drop n }) ?_ time
    have rest : (st.records.drop n).Sublist st.records := List.drop_sublist n _
    exact {
      room := rest.length_le.trans h.room
      numbered := numberedUpTo_rest (freed := st.records.take n) (by rw [List.take_append_drop]; exact h.numbered)
      ordered := h.ordered.sublist rest
      whole := whole
      sized := fun r mem => h.sized r (rest.subset mem)
      credit := (Nat.add_le_add_left (rest.countP_le (p := (·.sent))) _).trans h.credit
      counted := h.counted }

/-! ### What stays of the records (R102, R103, R106) -/

/-- What the posting has fixed of each record stays, and the new records stand behind all others. -/
def KeepsPostings (rs rs' : List Record) : Prop := ∃ new, rs'.map posting = (rs ++ new).map posting

theorem KeepsPostings.trans {rs rs' rs'' : List Record} (h : KeepsPostings rs rs') (g : KeepsPostings rs' rs'') :
    KeepsPostings rs rs'' := by
  obtain ⟨new, eq⟩ := h
  obtain ⟨new', eq'⟩ := g
  exact ⟨new ++ new', by rw [eq', List.map_append, eq, ← List.map_append, List.append_assoc]⟩

theorem keepsPostings_of_eq {rs rs' : List Record} (same : rs'.map posting = rs.map posting) : KeepsPostings rs rs' :=
  ⟨[], by rw [List.append_nil, same]⟩

theorem StoreMove.keepsPostings {st st' : Store} (move : StoreMove st st') : KeepsPostings st.records st'.records := by
  cases move with
  | post _ time =>
    obtain ⟨new, eq, -⟩ := st.post_records time _
    exact ⟨new, by rw [eq]⟩
  | requeue => exact keepsPostings_of_eq ((List.map_map ..).trans (List.map_congr_left fun r _ => requeue_posting r))
  | lend => exact keepsPostings_of_eq rfl
  | send _ records => exact keepsPostings_of_eq (by rw [records, List.map_append, List.map_append]; rfl)

theorem StoreMoves.keepsPostings {st st' : Store} (moves : StoreMoves st st') : KeepsPostings st.records st'.records := by
  induction moves with
  | refl => exact keepsPostings_of_eq rfl
  | tail _ move ih => exact ih.trans move.keepsPostings

/-- The records that an ACK leaves stay so too. -/
theorem keepsPostings_freeOldest (time : DWord) (n : Nat) (st : Store) :
    KeepsPostings (st.records.drop n) (st.freeOldest time n).records := by
  unfold Store.freeOldest
  split
  case isTrue zero => exact keepsPostings_of_eq (by rw [zero, List.drop_zero])
  case isFalse =>
    obtain ⟨-, eq⟩ | ⟨-, -, eq⟩ := Store.settleLoss_cases time { st with records := st.records.drop n } <;> rw [eq]
    exacts [keepsPostings_of_eq rfl, ⟨_, rfl⟩]

end Sys2Proof.Proofs
end

section
/-! PROOFS. The operations that the commands share, as moves of the report store that leave the queue of waiting commands. -/

namespace Sys2Proof.Proofs

open Sys2Proof.Machine Sys2Proof.Safety Sys2Proof.Claims

/-! ### Records carried from state to state -/

/-- From s to t the store has made moves at which no record leaves it, and the queue of waiting commands stands. -/
structure Carries (s t : State) : Prop where
  pending : t.pending = s.pending
  store : StoreMoves s.store t.store

theorem Carries.refl (s : State) : Carries s s := ⟨rfl, .refl⟩

theorem Carries.trans {s t u : State} (h : Carries s t) (g : Carries t u) : Carries s u :=
  ⟨g.pending.trans h.pending, h.store.trans g.store⟩

theorem carries_same {s t : State} (pending : t.pending = s.pending) (store : t.store = s.store) : Carries s t :=
  ⟨pending, store ▸ .refl⟩

/-- What carries the records and then touches neither the store nor the queue of waiting commands. -/
theorem Carries.same {s t u : State} (h : Carries s t) (pending : u.pending = t.pending) (store : u.store = t.store) :
    Carries s u :=
  h.trans (carries_same pending store)

theorem carries_move {s t : State} (pending : t.pending = s.pending) (move : StoreMove s.store t.store) : Carries s t :=
  ⟨pending, .single move⟩

/-- A report of one record at its event (R107, R108). -/
theorem carries_post {s : State} {p : Payload} (plain : isSnapshot p = false) : Carries s (s.post [p]) :=
  carries_move rfl (.post (.single plain) s.timeBase s.store)

/-! ### The line (R113, R135) -/

section

variable (s : State)

theorem carries_startReport (offers : s.store.offers = true) : Carries s s.startReport := by
  obtain ⟨older, r, newer, credit, records, sent, posted, eq⟩ := State.startReport_of_offers offers
  rw [eq]
  exact carries_move rfl (.send credit records sent posted)

theorem carries_kick : Carries s s.kick := by
  obtain ⟨-, eq⟩ | ⟨r, rest, -, -, eq⟩ | ⟨-, -, offers, eq⟩ | ⟨-, -, -, eq⟩ := s.kick_cases <;> rw [eq]
  exacts [.refl s, carries_same rfl rfl, carries_startReport s offers, .refl s]

theorem carries_offerBeforeReply : Carries s s.offerBeforeReply := by
  obtain eq | eq | ⟨-, -, offers, eq⟩ := s.offerBeforeReply_cases <;> rw [eq]
  exacts [.refl s, carries_same rfl rfl, (carries_startReport s offers).trans (carries_same rfl rfl)]

end

/-- The transmitter's choice after what carries the records. -/
theorem Carries.kick {s t : State} (h : Carries s t) : Carries s t.kick := h.trans (carries_kick t)

/-! ### Grants and time (R1, R37) -/

section

variable (s : State)

theorem carries_considerGrant : Carries s s.considerGrant := by
  obtain ⟨-, eq⟩ | ⟨e, rest, -, -, eq⟩ := s.considerGrant_cases <;> rw [eq]
  exacts [.refl s, carries_move rfl (.post (.single rfl) s.timeBase s.store)]

theorem carries_takeGrant : Carries s s.takeGrant := by
  unfold State.takeGrant
  split
  exacts [(carries_considerGrant s).kick, .refl s]

theorem carries_elapse (d : Nat) : Carries s (s.elapse d) := carries_same (by simp) (by simp)

theorem carries_reachExpiry (left : Nat) : Carries s (s.reachExpiry left) := carries_same (by simp) (by simp)

end

/-- A grant considered after what carries the records. -/
theorem Carries.considerGrant {s t : State} (h : Carries s t) : Carries s t.considerGrant :=
  h.trans (carries_considerGrant t)

/-- An expiry carries the records as its event does. -/
theorem carries_whenDue {event : State → State} (carries : ∀ u, Carries u (event u)) (t : Timer) (s : State) :
    Carries s (s.takeGrant.whenDue t event) := by
  refine (carries_takeGrant s).trans ?_
  obtain ⟨-, eq⟩ | ⟨-, -, eq⟩ := s.takeGrant.whenDue_cases t event <;> rw [eq]
  exacts [.refl _, ((carries_reachExpiry _ _).trans (carries _)).kick]

/-- As for an expiry, of a load or a block that may be in another state. -/
theorem carries_whenDue_if {event : State → State} (carries : ∀ u, Carries u (event u)) (t : Timer) (s : State) (p : Prop)
    [Decidable p] : Carries s (if p then s.takeGrant.whenDue t event else s.takeGrant) := by
  split
  exacts [carries_whenDue carries t s, carries_takeGrant s]

/-! ### Loads -/

theorem LoadChange.carries {s t : State} {n : LoadIx} (h : LoadChange s n t) : Carries s t := by
  cases h with
  | write => exact carries_same rfl rfl
  | move => exact carries_move rfl (.post (.single rfl) s.timeBase s.store)

theorem LoadChanges.carries {s t : State} {ns : List LoadIx} (h : LoadChanges s ns t) : Carries s t := by
  induction h with
  | nil s => exact .refl s
  | cons head _ ih => exact head.carries.trans ih

/-- An operation that is an event at each load carries the records over several of them. -/
theorem carries_eachLoad {op : LoadIx → State → State} (change : ∀ n s, LoadChange s n (op n s)) (ns : List LoadIx)
    (s : State) : Carries s (s.eachLoad ns op) :=
  (loadChanges_eachLoad change ns s).carries

section

variable (s : State)

theorem carries_moveLoad (n : LoadIx) (new : LoadState) (cause : Cause) : Carries s (s.moveLoad n new cause) :=
  carries_move rfl (.post (.single rfl) s.timeBase s.store)

theorem carries_setLoad (n : LoadIx) (r : LoadRec) : Carries s (s.setLoad n r) := carries_same rfl rfl

theorem carries_trip (cause : TripCause) (n : LoadIx) : Carries s (s.trip cause n) :=
  (carries_setLoad s n _).trans (carries_moveLoad _ n _ _)

/-- A reading at a load (R11, R13, R18, R20). -/
theorem carries_loadTakes (n : LoadIx) (reading : Reading) : Carries s (s.loadTakes n reading) := by
  unfold State.loadTakes
  split
  case h_1 state => exact (loadChange_judgeCurrent (.inl state) _ _ _).carries.considerGrant
  case h_2 state => exact (loadChange_judgeCurrent (.inr state) _ _ _).carries
  case h_3 state => exact (loadChange_countSenseFault (.inl state)).carries.considerGrant
  case h_4 state => exact (loadChange_countSenseFault (.inr state)).carries
  all_goals exact .refl s

/-! ### The depth, the ladders and the qualified inputs -/

theorem carries_formDepth : Carries s s.formDepth := by
  refine .trans ?_ (formDepth_changes s).carries
  unfold depthSet
  split
  exacts [carries_same rfl rfl, carries_move rfl (.post (.single rfl) s.timeBase s.store)]

theorem carries_changeLevel (k : LadderIx) (level : Nat) (reading : Reading) (r : Ladder) :
    Carries s (s.changeLevel k level reading r) :=
  carries_move rfl (.post (.single rfl) s.timeBase s.store)

theorem carries_setLadderRec (k : LadderIx) (r : Ladder) : Carries s (s.setLadderRec k r) := carries_same rfl rfl

theorem carries_evaluateLadder (k : LadderIx) (reading : Reading) : Carries s (s.evaluateLadder k reading) := by
  unfold State.evaluateLadder
  dsimp only
  split
  · split
    exacts [carries_changeLevel s _ _ _ _, carries_setLadderRec s _ _]
  · split
    · split
      exacts [carries_changeLevel s _ _ _ _, carries_setLadderRec s _ _]
    · exact carries_setLadderRec s _ _

theorem carries_ladderTakes (d : Delivery (List LadderIx)) (k : LadderIx) : Carries s (s.ladderTakes d k) := by
  unfold State.ladderTakes
  split
  exacts [carries_evaluateLadder s k d.reading, .refl s]

theorem carries_ladders (d : Delivery (List LadderIx)) :
    ∀ (ks : List LadderIx) (s : State), Carries s (ks.foldl (fun t k => t.ladderTakes d k) s)
  | [], s => .refl s
  | k :: ks, s => (carries_ladderTakes s d k).trans (carries_ladders d ks _)

theorem carries_resetLadder (k : LadderIx) (old new : LadderConfig) : Carries s (s.resetLadder k old new) := by
  unfold State.resetLadder
  dsimp only
  split
  · exact .refl s
  · exact carries_setLadderRec s _ _
  · split
    exacts [carries_setLadderRec s _ _, carries_changeLevel s _ _ _ _]
  · split
    exacts [carries_changeLevel s _ _ _ _, carries_setLadderRec s _ _]

theorem carries_handKill (asserted : Bool) : Carries s (s.handKill asserted) :=
  (carries_post rfl).trans (handKill_changes asserted s).carries

theorem carries_handShed (asserted : Bool) : Carries s (s.handShed asserted) := by
  have reported : Carries s (s.post [.shedInput asserted s.ws.globals.shedInputLevel]) := carries_post rfl
  unfold State.handShed
  refine .trans ?_ (carries_formDepth _)
  exact reported.same rfl rfl

/-! ### Watches, conversions and the receiver -/

theorem carries_watchTakes (d : Delivery (List WatchIx)) (w : WatchIx) : Carries s (s.watchTakes d w) := by
  unfold State.watchTakes State.evaluateWatch
  dsimp only
  split
  · split
    exacts [carries_move rfl (.post (.single rfl) s.timeBase s.store), carries_same rfl rfl]
  · exact .refl s

theorem carries_watches (d : Delivery (List WatchIx)) :
    ∀ (ws : List WatchIx) (s : State), Carries s (ws.foldl (fun t w => t.watchTakes d w) s)
  | [], s => .refl s
  | w :: ws, s => (carries_watchTakes s d w).trans (carries_watches d ws _)

theorem carries_readingArrives (ch : ChanIx) (restart : Bool) (raw : Nat) : Carries s (s.readingArrives ch restart raw) := by
  have reported : Carries s (s.sensorReport ch raw) := by
    unfold State.sensorReport
    dsimp only
    split
    exacts [.refl s, carries_post rfl]
  exact reported.trans (carries_same rfl rfl)

theorem carries_noticeGoodFrame (kind tag : Byte) : Carries s (s.noticeGoodFrame kind tag) := by
  obtain ⟨-, eq⟩ | ⟨-, -, eq⟩ | ⟨-, -, eq⟩ | ⟨-, eq⟩ := s.noticeGoodFrame_cases kind tag <;> rw [eq]
  exacts [.refl s, .refl s, carries_same rfl rfl, (carries_post rfl).trans (carries_same rfl rfl)]

theorem carries_queueInbound (f : Frame) : Carries s (s.queueInbound f) := by
  obtain ⟨-, eq⟩ | ⟨-, eq⟩ := s.queueInbound_cases f <;> rw [eq] <;> exact carries_same rfl rfl

theorem carries_closeFrame (f : Frame) : Carries s (s.closeFrame f) := by
  have hunting : Carries s (s.setFramer .hunt) := carries_same rfl rfl
  obtain ⟨-, eq⟩ | ⟨-, eq⟩ := s.closeFrame_cases f <;> rw [eq]
  exacts [(hunting.trans (carries_noticeGoodFrame _ _ _)).trans (carries_queueInbound _ f),
    hunting.trans (carries_same rfl rfl)]

theorem carries_frameByte (b : Byte) : Carries s (s.frameByte b) := by
  unfold State.frameByte
  split
  case h_1 => split; exacts [carries_same rfl rfl, .refl s]
  case h_2 => split <;> exact carries_same rfl rfl
  case h_7 => exact carries_closeFrame s _
  all_goals exact carries_same rfl rfl

/-! ### Start-up (R193 to R195) -/

theorem carries_startupReports : Carries s s.startupReports := by
  have posted : Carries s ((s.post [s.resetReport]).post [s.profileLoadedReport]) :=
    (carries_post rfl).trans (carries_post rfl)
  have killed : Carries s (startupKilled s) := by
    unfold startupKilled
    split
    exacts [posted.trans (carries_handKill _ true), posted]
  rw [startupReports_eq]
  split
  exacts [killed.trans (carries_handShed _ true), killed]

theorem carries_startRunning (asInh : PinLevel) : Carries s (s.startRunning asInh) := by
  have begun : Carries s { s with scan := s.scan.begin s.ws.scanList 0 } := carries_same rfl rfl
  unfold State.startRunning
  dsimp only
  refine Carries.same (t := State.considerGrant _) (.considerGrant ?_) rfl rfl
  split
  exacts [begun.trans (carries_eachLoad (fun _ _ => loadChange_autostartLoad) allLoads _), begun]

theorem carries_completeStartup (asInh : PinLevel) : Carries s (s.completeStartup asInh) := by
  have selected : Carries s s.selectProfile := carries_same rfl rfl
  exact (selected.trans (carries_startupReports _)).trans (carries_startRunning _ asInh)

end

end Sys2Proof.Proofs
end

section
/-! PROOFS. Every command as moves of the report store, an ACK of the records it frees, or a reset; and every command ends in a
next state and leaves the queue of waiting commands. -/

namespace Sys2Proof.Proofs

open Sys2Proof.Machine Sys2Proof.Safety Sys2Proof.Claims

/-! ### What the owners of the requests answer -/

section

variable (b : List Byte) (s : State)

theorem carries_answerHello : Carries s (answerHello b s).state := by
  unfold answerHello
  split
  · exact .refl s
  · exact ⟨rfl, .tail (.single (.requeue s.store)) (.lend (Nat.zero_le _))⟩

theorem carries_answerGrant : Carries s (answerGrant b s).state := by
  unfold answerGrant
  repeat' split
  all_goals try exact .refl s
  exact carries_move rfl (.lend (Nat.min_le_right _ _))

theorem carries_answerResend : Carries s (answerResend b s).state := by
  unfold answerResend
  split
  exacts [.refl s, carries_move rfl (.requeue s.store)]

/-- The latest values of eight channels are eight. -/
theorem latestFrom_length {first : Nat} (inRange : first + 8 ≤ 24) : (s.latestFrom first 8).length = 8 := by
  rw [State.latestFrom, List.length_map, List.length_take, List.length_drop, Vector.length_toList]
  omega

theorem isReport_snapshot : IsReport s.snapshotReport :=
  .snapshot ⟨latestFrom_length s (by decide), latestFrom_length s (by decide), latestFrom_length s (by decide)⟩

theorem carries_answerSnapshot : Carries s (answerSnapshot b s).state := by
  unfold answerSnapshot
  split
  exacts [.refl s, carries_move rfl (.post (isReport_snapshot s) s.timeBase s.store)]

theorem carries_answerDemand : Carries s (answerDemand b s).state := by
  have off : ∀ ns, Carries s (s.eachLoad ns (State.demandOff .demand)).considerGrant := fun ns =>
    (carries_eachLoad (fun _ _ => loadChange_demandOff .demand) ns s).considerGrant
  have on : ∀ ns, Carries s (answerDemandOn ns s).state := fun ns => by
    unfold answerDemandOn
    dsimp only
    split
    exacts [.refl s, (carries_eachLoad (fun _ _ => loadChange_demandOn .demand) _ s).considerGrant]
  unfold answerDemand
  repeat' split
  all_goals try exact .refl s
  exacts [on _, off _]

theorem carries_answerClear : Carries s (answerClear b s).state := by
  unfold answerClear
  repeat' split
  all_goals try exact .refl s
  case _ locked => exact (loadChange_clearLoad locked).carries

theorem carries_answerSetLoad : Carries s (answerSetLoad b s).state := by
  unfold answerSetLoad
  repeat' split
  all_goals exact carries_same rfl rfl

theorem carries_answerReadLoad : Carries s (answerReadLoad b s).state := by
  unfold answerReadLoad
  repeat' split
  all_goals exact .refl s

theorem carries_answerForceLevel : Carries s (answerForceLevel b s).state := by
  unfold answerForceLevel
  repeat' split
  all_goals try exact .refl s
  refine Carries.considerGrant (.trans ?_ (carries_formDepth _))
  exact carries_same rfl rfl

theorem carries_answerSetLadder : Carries s (answerSetLadder b s).state := by
  unfold answerSetLadder
  repeat' split
  all_goals try exact .refl s
  refine Carries.considerGrant (.trans (.trans ?_ (carries_resetLadder _ _ _ _)) (carries_formDepth _))
  exact carries_same rfl rfl

theorem carries_answerSetCutoff : Carries s (answerSetCutoff b s).state := by
  have set : ∀ table, Carries s (s.configureCutoff table) := fun table => by
    have shed : Carries s (cutoffShed table s) :=
      Carries.trans (t := withCutoff table s) (carries_same rfl rfl) (cutoffShed_changes table s).carries
    unfold State.configureCutoff
    dsimp only
    refine .considerGrant ?_
    split
    exacts [shed.trans (carries_same rfl rfl), shed]
  unfold answerSetCutoff
  repeat' split
  all_goals try exact .refl s
  exact set _

theorem carries_answerReadSeverity : Carries s (answerReadSeverity b s).state := by
  unfold answerReadSeverity
  repeat' split
  all_goals exact .refl s

theorem carries_answerSetScan : Carries s (answerSetScan b s).state := by
  unfold answerSetScan
  repeat' split
  all_goals try exact .refl s
  refine Carries.considerGrant ?_
  exact carries_same rfl rfl

theorem carries_answerSetChannel : Carries s (answerSetChannel b s).state := by
  unfold answerSetChannel
  repeat' split
  all_goals exact carries_same rfl rfl

theorem carries_answerReadChannels : Carries s (answerReadChannels b s).state := by
  unfold answerReadChannels
  repeat' split
  all_goals exact .refl s

theorem carries_answerSetWatch : Carries s (answerSetWatch b s).state := by
  unfold answerSetWatch
  repeat' split
  all_goals exact carries_same rfl rfl

theorem carries_answerAckWatch : Carries s (answerAckWatch b s).state := by
  unfold answerAckWatch
  repeat' split
  all_goals exact carries_same rfl rfl

theorem carries_answerReadWatch : Carries s (answerReadWatch b s).state := by
  unfold answerReadWatch
  repeat' split
  all_goals exact .refl s

theorem carries_answerSetGlobals : Carries s (answerSetGlobals b s).state := by
  have retimed : ∀ u : State, Carries u u.retimeSilence := fun u => by
    unfold State.retimeSilence
    split
    exacts [carries_same rfl rfl, .refl u]
  unfold answerSetGlobals
  repeat' split
  all_goals try exact .refl s
  refine .trans (.considerGrant (.trans ?_ (carries_formDepth _))) (retimed _)
  exact carries_same rfl rfl

theorem carries_answerReadSystem : Carries s (answerReadSystem b s).state := by
  unfold answerReadSystem
  split <;> exact .refl s

theorem carries_answerReadLink : Carries s (answerReadLink b s).state := by
  unfold answerReadLink
  repeat' split
  all_goals exact carries_same rfl rfl

theorem carries_answerSave : Carries s (answerSave b s).state := by
  unfold answerSave
  repeat' split
  all_goals exact carries_same rfl rfl

theorem carries_answerReset : Carries s (answerReset b s).state := by
  unfold answerReset
  split <;> exact carries_same rfl rfl

end

/-! ### Requests (R141, R142) -/

section

variable (s : State)

/-- After the owner's answer a request carries the records to its end. -/
theorem carries_executeRequest (offers : Bool) (f : Frame) (own : List Byte → State → Answer) :
    Carries (own f.body s).state (s.executeRequest offers f own) := by
  have offered : Carries (own f.body s).state
      (if offers then (own f.body s).state.offerBeforeReply else (own f.body s).state) := by
    cases offers
    exacts [.refl _, carries_offerBeforeReply _]
  unfold State.executeRequest
  exact .kick (offered.same rfl rfl)

theorem carries_dropInbound : Carries s s.takeGrant.dropInbound := (carries_takeGrant s).same rfl rfl

/-- A request that is taken carries the records up to its owner's answer and from it on; one that is not, or that is answered
without its owner, carries them throughout. -/
theorem takeRequest_carries (offers : Bool) (kind : Byte) (own : List Byte → State → Answer) :
    Carries s (s.takeRequest offers kind own) ∨
      ∃ f : Frame, Carries (own f.body s.takeGrant.dropInbound).state (s.takeRequest offers kind own) := by
  have replied : ∀ frame, Carries s (s.takeGrant.dropInbound.queueReply frame false).kick := fun frame =>
    .kick ((carries_dropInbound s).same rfl rfl)
  rw [State.takeRequest_after_grant]
  obtain ⟨-, eq⟩ | ⟨f, -, ⟨-, eq⟩ | ⟨-, e, -, eq⟩ | ⟨-, -, eq⟩⟩ :=
    State.takeRequest_cases offers kind own s.takeGrant_grantDue <;> rw [eq]
  exacts [.inl (carries_takeGrant s), .inl (replied _), .inl (replied _), .inr ⟨f, carries_executeRequest _ offers f own⟩]

theorem carries_takeRequest {own : List Byte → State → Answer} (carries : ∀ b u, Carries u (own b u).state) (offers : Bool)
    (kind : Byte) : Carries s (s.takeRequest offers kind own) := by
  obtain h | ⟨f, h⟩ := takeRequest_carries s offers kind own
  exacts [h, ((carries_dropInbound s).trans (carries _ _)).trans h]

end

/-! ### What the events of the expiries do -/

section

variable (s : State)

theorem carries_interbyteExpires : Carries s s.interbyteExpires := carries_same rfl rfl

theorem carries_pauseExpires : Carries s s.pauseExpires := carries_same rfl rfl

theorem carries_cleanRunExpires (n : LoadIx) : Carries s (s.cleanRunExpires n) := carries_same rfl rfl

theorem carries_settleExpires (n : LoadIx) : Carries s (s.settleExpires n) := by
  refine Carries.considerGrant ?_
  split
  exacts [carries_trip s _ n, carries_moveLoad s n _ _]

theorem carries_backoffExpires (n : LoadIx) : Carries s (s.backoffExpires n) :=
  ((carries_setLoad s n _).trans (carries_moveLoad _ n _ _)).considerGrant

theorem carries_gapExpires : Carries s s.gapExpires :=
  Carries.considerGrant (t := { s with seq := { s.seq with gap := .stopped } }) (carries_same rfl rfl)

theorem carries_holdExpires : Carries s s.holdExpires := by
  have stopped : Carries s { s with sev := { s.sev with hold := .stopped } } := carries_same rfl rfl
  exact (stopped.trans (carries_eachLoad (fun _ _ => loadChange_restoreLoad) allLoads _)).considerGrant

/-- The host's loss requeues the SENT records and takes back the credits (R120). -/
theorem carries_loseHost : Carries s s.loseHost := by
  have told : StoreMoves s.store (s.store.post s.timeBase [.hostLost s.ws.globals.silenceTimeout]) :=
    .single (.post (.single rfl) s.timeBase s.store)
  have orphans : ∀ u, Carries s u → Carries s (u.eachLoad allLoads State.orphanAction) := fun u carried =>
    carried.trans (carries_eachLoad (fun _ _ => loadChange_orphanAction) allLoads u)
  unfold State.loseHost
  dsimp only
  exact .considerGrant (orphans _ ⟨rfl, (told.tail (.requeue _)).tail (.lend (Nat.zero_le _))⟩)

theorem carries_endSave (v : Save) (verified : Bool) : Carries s (s.endSave v verified) := by
  cases verified <;> exact carries_move rfl (.post (.single rfl) s.timeBase s.store)

theorem carries_pgQualifies (n : LoadIx) : Carries s (s.pgQualifies n) := by
  have adopted : ∀ q, Carries s (s.setPg n q) := fun q => carries_same rfl rfl
  unfold State.pgQualifies
  dsimp only
  split
  exacts [(adopted _).trans (carries_trip _ _ n), adopted _]

theorem carries_killQualifies : Carries s s.killQualifies := by
  have adopted : ∀ q, Carries s { s with quals := q } := fun q => carries_same rfl rfl
  unfold State.killQualifies
  dsimp only
  split
  exacts [((adopted _).trans (carries_handKill _ _)).considerGrant, adopted _]

theorem carries_shedQualifies : Carries s s.shedQualifies := by
  have adopted : ∀ q, Carries s { s with quals := q } := fun q => carries_same rfl rfl
  unfold State.shedQualifies
  dsimp only
  split
  exacts [((adopted _).trans (carries_handShed _ _)).considerGrant, adopted _]

end

/-! ### Every command -/

/-- What a command can make of the report store: moves at which no record leaves it; at an ACK, besides, the records of whole
reports freed in the store that a due grant leaves; or the reset values. -/
inductive StoreEffect (c : Instr) (s : State) : Store → Prop
  | moves {st : Store} (moves : StoreMoves s.store st) : StoreEffect c s st
  | freed {st : Store} {n : Nat} {number : Word} (ack : c = .ack) (count : s.takeGrant.store.ackCount number = some n)
      (time : DWord) (moves : StoreMoves (s.takeGrant.store.freeOldest time n) st) : StoreEffect c s st
  | reset (takes : takesReset c s) : StoreEffect c s Store.reset

/-- What a command leaves of the queue of waiting commands and of the report store. -/
def Effects (c : Instr) (s t : State) : Prop := t.pending = s.pending ∧ StoreEffect c s t.store

theorem Carries.effects {c : Instr} {s t : State} (h : Carries s t) : Effects c s t := ⟨h.pending, .moves h.store⟩

theorem effects_reset {c : Instr} {s : State} (phase : Phase) (cause : ResetCause) (takes : takesReset c s) :
    Effects c s (s.takeReset phase cause) :=
  ⟨rfl, .reset takes⟩

section

variable (s : State)

/-- ACK is the one request at which records leave the store (R117). -/
theorem effects_ack : Effects .ack s (s.takeRequest true 0x03#8 answerAck) := by
  obtain h | ⟨f, h⟩ := takeRequest_carries s true 0x03#8 answerAck
  · exact h.effects
  · have dropped := carries_dropInbound s
    unfold answerAck at h
    split at h
    · exact (dropped.trans h).effects
    · split at h
      · exact (dropped.trans h).effects
      case h_2 n count => exact ⟨h.pending.trans dropped.pending, .freed rfl count _ h.store⟩

theorem effects_hello : ∃ t, execHello s = .next t ∧ Effects .hello s t := by
  unfold execHello
  dsimp only
  split
  · exact ⟨_, rfl, (carries_takeGrant s).effects⟩
  · exact ⟨_, rfl, Carries.effects (.kick (.same ((carries_dropInbound s).trans (carries_answerHello _ _)) rfl rfl))⟩

theorem effects_badKindFrame : ∃ t, execBadKindFrame s = .next t ∧ Effects .badKindFrame s t := by
  unfold execBadKindFrame
  dsimp only
  split
  · exact ⟨_, rfl, (carries_takeGrant s).effects⟩
  · exact ⟨_, rfl, Carries.effects (.kick ((carries_dropInbound s).same rfl rfl))⟩

theorem carries_byteArrival (b : Byte) (stopError : Bool) :
    Carries s (if s.link.rxEnabled then (if stopError then s.framingError else s.frameByte b).kick else s) := by
  split
  · refine Carries.kick ?_
    split
    exacts [carries_same rfl rfl, carries_frameByte s b]
  · exact .refl s

/-- The line that frees takes a reset at the end of a RESET reply, and otherwise the next frame (R135, R154). -/
theorem effects_lineFrees : ∃ t, execLineFrees s = .next t ∧ Effects .lineFrees s t := by
  have idle : Carries s s.goIdle.kick := Carries.kick (t := s.goIdle) (carries_same rfl rfl)
  unfold execLineFrees
  split
  · exact ⟨_, rfl, (Carries.refl s).effects⟩
  · exact ⟨_, rfl, idle.effects⟩
  case h_3 r sending =>
    refine ⟨_, rfl, ?_⟩
    split
    case isTrue resets => exact effects_reset _ _ (.inr (.inr (.inr ⟨rfl, r, sending, resets⟩)))
    case isFalse => exact idle.effects

theorem effects_pinReset : ∃ t, execPinReset s = .next t ∧ Effects .pinReset s t := by
  refine ⟨_, rfl, ?_⟩
  split
  exacts [(Carries.refl s).effects, effects_reset _ _ (.inr (.inl rfl))]

theorem carries_resetEnd (br1 br0 asInh : PinLevel) :
    Carries s (if s.phase = .held then s.beginStartup { br1 := br1, br0 := br0, asInh := asInh } else s) := by
  split
  exacts [carries_same rfl rfl, .refl s]

theorem carries_profileSelection (asInh : PinLevel) :
    ∃ t, execProfileSelection asInh s = .next t ∧ Carries s t := by
  refine ⟨_, rfl, ?_⟩
  split
  exacts [((carries_elapse s _).trans (carries_completeStartup _ asInh)).kick, .refl s]

theorem carries_readingArrival (raw : Nat) : ∃ t, execReadingArrival raw s = .next t ∧ Carries s t := by
  have granted := carries_takeGrant s
  unfold execReadingArrival
  dsimp only
  split
  · exact ⟨_, rfl, granted⟩
  · exact ⟨_, rfl, granted⟩
  · refine ⟨_, rfl, ?_⟩
    split
    exacts [(granted.trans (carries_readingArrives _ _ _ raw)).kick, granted]

theorem carries_ladderEvaluation : ∃ t, execLadderEvaluation s = .next t ∧ Carries s t := by
  unfold execLadderEvaluation
  split
  · exact ⟨_, rfl, .refl s⟩
  case h_2 d rest _ =>
    have taken : Carries s { s with scan := { s.scan with toLadders := rest } } := carries_same rfl rfl
    exact ⟨_, rfl, ((taken.trans (carries_ladders d allLadders _)).trans (carries_formDepth _)).considerGrant.kick⟩

theorem carries_watchEvaluation : ∃ t, execWatchEvaluation s = .next t ∧ Carries s t := by
  unfold execWatchEvaluation
  split
  · exact ⟨_, rfl, .refl s⟩
  case h_2 d rest _ =>
    have taken : Carries s { s with scan := { s.scan with toWatches := rest } } := carries_same rfl rfl
    exact ⟨_, rfl, (taken.trans (carries_watches d allWatches _)).kick⟩

theorem carries_loadReading : ∃ t, execLoadReading s = .next t ∧ Carries s t := by
  unfold execLoadReading
  split
  · exact ⟨_, rfl, .refl s⟩
  case h_2 d rest _ =>
    have taken : Carries s { s with scan := { s.scan with toLoads := rest } } := carries_same rfl rfl
    exact ⟨_, rfl, (taken.trans (carries_loadTakes _ d.bound d.reading)).kick⟩

theorem carries_saveEnd (verified : Bool) : ∃ t, execSaveEnd verified s = .next t ∧ Carries s t := by
  unfold execSaveEnd
  dsimp only
  split
  · exact ⟨_, rfl, carries_takeGrant s⟩
  · exact ⟨_, rfl, carries_whenDue (fun u => carries_endSave u _ verified) _ s⟩

end

/-- Every command, in every state, ends in a next state, leaves the queue of waiting commands, and has one of the three effects on
the report store. -/
theorem exec_effects (c : Instr) (s : State) : ∃ t, exec c s = .next t ∧ Effects c s t := by
  have carried : ∀ {o : Host.Outcome State Fault Refusal},
      (∃ t, o = .next t ∧ Carries s t) → ∃ t, o = .next t ∧ Effects c s t :=
    fun ⟨t, eq, h⟩ => ⟨t, eq, h.effects⟩
  have request : ∀ {own : List Byte → State → Answer}, (∀ b u, Carries u (own b u).state) →
      ∀ offers kind, Effects c s (s.takeRequest offers kind own) :=
    fun carries offers kind => (carries_takeRequest s carries offers kind).effects
  have expiry : ∀ {event : State → State}, (∀ u, Carries u (event u)) → ∀ t, Effects c s (s.takeGrant.whenDue t event) :=
    fun carries t => (carries_whenDue carries t s).effects
  have expiryIf : ∀ {event : State → State}, (∀ u, Carries u (event u)) → ∀ t (p : Prop) [Decidable p],
      Effects c s (if p then s.takeGrant.whenDue t event else s.takeGrant) :=
    fun carries t p _ => (carries_whenDue_if carries t s p).effects
  cases c with
  | hello => exact effects_hello s
  | grant => exact ⟨_, rfl, request carries_answerGrant _ _⟩
  | ack => exact ⟨_, rfl, effects_ack s⟩
  | resend => exact ⟨_, rfl, request carries_answerResend _ _⟩
  | snapshot => exact ⟨_, rfl, request carries_answerSnapshot _ _⟩
  | demand => exact ⟨_, rfl, request carries_answerDemand _ _⟩
  | clear => exact ⟨_, rfl, request carries_answerClear _ _⟩
  | setLoad => exact ⟨_, rfl, request carries_answerSetLoad _ _⟩
  | readLoad => exact ⟨_, rfl, request carries_answerReadLoad _ _⟩
  | forceLevel => exact ⟨_, rfl, request carries_answerForceLevel _ _⟩
  | setLadder => exact ⟨_, rfl, request carries_answerSetLadder _ _⟩
  | setCutoff => exact ⟨_, rfl, request carries_answerSetCutoff _ _⟩
  | readSeverity => exact ⟨_, rfl, request carries_answerReadSeverity _ _⟩
  | setScan => exact ⟨_, rfl, request carries_answerSetScan _ _⟩
  | setChannel => exact ⟨_, rfl, request carries_answerSetChannel _ _⟩
  | readChannels => exact ⟨_, rfl, request carries_answerReadChannels _ _⟩
  | setWatch => exact ⟨_, rfl, request carries_answerSetWatch _ _⟩
  | ackWatch => exact ⟨_, rfl, request carries_answerAckWatch _ _⟩
  | readWatch => exact ⟨_, rfl, request carries_answerReadWatch _ _⟩
  | setGlobals => exact ⟨_, rfl, request carries_answerSetGlobals _ _⟩
  | readSystem => exact ⟨_, rfl, request carries_answerReadSystem _ _⟩
  | readLink => exact ⟨_, rfl, request carries_answerReadLink _ _⟩
  | save => exact ⟨_, rfl, request carries_answerSave _ _⟩
  | reset => exact ⟨_, rfl, request carries_answerReset _ _⟩
  | badKindFrame => exact effects_badKindFrame s
  | byteArrival b stopError => exact ⟨_, rfl, (carries_byteArrival s b stopError).effects⟩
  | interbyteTimeout => exact ⟨_, rfl, expiry carries_interbyteExpires _⟩
  | lineFrees => exact effects_lineFrees s
  | powerOnReset => exact ⟨_, rfl, effects_reset _ _ (.inl rfl)⟩
  | pinReset => exact effects_pinReset s
  | resetEnd br1 br0 asInh => exact ⟨_, rfl, (carries_resetEnd s br1 br0 asInh).effects⟩
  | profileSelection asInh => exact carried (carries_profileSelection s asInh)
  | readingArrival raw => exact carried (carries_readingArrival s raw)
  | pauseExpiry => exact ⟨_, rfl, expiryIf carries_pauseExpires _ _⟩
  | ladderEvaluation => exact carried (carries_ladderEvaluation s)
  | watchEvaluation => exact carried (carries_watchEvaluation s)
  | loadReading => exact carried (carries_loadReading s)
  | startGrant => exact ⟨_, rfl, (carries_takeGrant s).effects⟩
  | settleExpiry n => exact ⟨_, rfl, expiryIf (fun u => carries_settleExpires u n) _ _⟩
  | cleanRunExpiry n => exact ⟨_, rfl, expiryIf (fun u => carries_cleanRunExpires u n) _ _⟩
  | backoffExpiry n => exact ⟨_, rfl, expiryIf (fun u => carries_backoffExpires u n) _ _⟩
  | gapExpiry => exact ⟨_, rfl, expiry carries_gapExpires _⟩
  | restoreHoldExpiry => exact ⟨_, rfl, expiry carries_holdExpires _⟩
  | silenceExpiry => exact ⟨_, rfl, expiryIf carries_loseHost _ _⟩
  | saveEnd verified => exact carried (carries_saveEnd s verified)
  | pgPinChange n level => exact ⟨_, rfl, (carries_same rfl rfl : Carries s _).effects⟩
  | pgQualified n => exact ⟨_, rfl, expiry (fun u => carries_pgQualifies u n) _⟩
  | killPinChange level => exact ⟨_, rfl, (carries_same rfl rfl : Carries s _).effects⟩
  | killQualified => exact ⟨_, rfl, expiry carries_killQualifies _⟩
  | shedPinChange level => exact ⟨_, rfl, (carries_same rfl rfl : Carries s _).effects⟩
  | shedQualified => exact ⟨_, rfl, expiry carries_shedQualifies _⟩
  | powerLoss => exact ⟨_, rfl, effects_reset _ _ (.inr (.inr (.inl rfl)))⟩

/-- Settles O3: the effect of every command on the queue of waiting commands. -/
theorem everyCommandCompletesAndKeepsTheQueue : Obligations.EveryCommandCompletesAndKeepsTheQueue := by
  intro c s
  obtain ⟨t, eq, pending, -⟩ := exec_effects c s
  exact ⟨t, eq, pending⟩

theorem storeOk_reset : StoreOk Store.reset := by decide

/-- Every effect on the report store keeps its laws. -/
theorem StoreEffect.storeOk {c : Instr} {s : State} {st : Store} (effect : StoreEffect c s st) (ok : StoreOk s.store) :
    StoreOk st := by
  cases effect with
  | moves moves => exact moves.storeOk ok
  | freed _ count time moves =>
    have granted := (carries_takeGrant s).store.storeOk ok
    exact moves.storeOk (storeOk_freeOldest count granted time)
  | reset => exact storeOk_reset

/-- Settles O52: every step is a command or one millisecond, and each effect of a command on the report store keeps its laws. -/
theorem stepKeepsTheReportStoreLawful : Obligations.StepKeepsTheReportStoreLawful := by
  intro s t ok h
  obtain ⟨c, rest, h⟩ | rfl := step_cases h
  · obtain ⟨t', eq, -, effect⟩ := exec_effects c { s with pending := rest }
    obtain rfl := Host.Outcome.next.inj (h.symm.trans eq)
    exact effect.storeOk ok
  · rw [State.elapse_store]; exact ok

/-- Settles O59: no move takes a record away, and what an ACK frees is SENT in a lawful store. -/
theorem recordsLeaveOnlyByAckOrReset : Obligations.RecordsLeaveOnlyByAckOrReset := by
  intro c s t h ok noReset settled
  obtain ⟨t', eq, -, effect⟩ := exec_effects c s
  obtain rfl := Host.Outcome.next.inj (h.symm.trans eq)
  generalize t.store = st at effect
  cases effect with
  | moves moves =>
    obtain ⟨new, same⟩ := moves.keepsPostings
    exact ⟨[], s.store.records, new, rfl, same, by simp, by simp⟩
  | @freed _ n number ack count time moves =>
    rw [takeGrant_of_not_GrantDue (settled (by rw [ack]; rfl))] at count moves
    obtain ⟨new, same⟩ := (keepsPostings_freeOldest time n s.store).trans moves.keepsPostings
    exact ⟨s.store.records.take n, s.store.records.drop n, new, (List.take_append_drop n _).symm, same,
      (ackCount_spec count ok).1, fun _ => ack⟩
  | reset takes => exact absurd takes noReset

end Sys2Proof.Proofs
end

section
/-! PROOFS. The end of a frame on the line, and the requests of session and report flow: HELLO, GRANT, ACK and SNAPSHOT (O8, O17,
O18, O19, O21). -/

namespace Sys2Proof.Proofs

open Sys2Proof.Machine Sys2Proof.Safety Sys2Proof.Claims

/-! ### The line frees (R135, R136) -/

/-- Settles O8: the three cases of the transmitter, each with the model's choice of the next frame. -/
theorem lineFreesStartsTheNextFrame : Obligations.LineFreesStartsTheNextFrame := by
  intro s
  refine ⟨fun f sending => ⟨s.goIdle.kick, ?_, lineTaken_kick s.goIdle⟩,
    fun r sending noReset => ⟨s.goIdle.kick, ?_, lineTaken_kick s.goIdle⟩, fun idle => ?_⟩ <;>
    change execLineFrees s = _
  · simp only [execLineFrees, sending]
  · simp only [execLineFrees, sending, noReset, Bool.false_eq_true, if_false]
  · simp only [execLineFrees, idle]

/-! ### HELLO (R121, R145, R146) -/

theorem helloDone_eq (s : State) : helloDone s = s.openSession := rfl

theorem sent_requeued {rs : List Record} {r : Record} (mem : r ∈ requeued rs) : r.sent = false := by
  obtain ⟨x, -, rfl⟩ := List.mem_map.mp mem
  exact requeue_sent x

/-- The reply shows the counts after the requeue: every record POSTED, none SENT, no credit. -/
theorem helloBody_eq (s : State) : helloBody (helloDone s) = Status.ok.bytes ++ (helloDone s).helloFields := by
  have posted : (helloDone s).store.postedCount = (helloDone s).store.records.length := by
    rw [postedCount_eq, List.countP_eq_length]
    intro r mem
    simp [sent_requeued mem]
  have sent : (helloDone s).store.sentCount = 0 := by
    rw [sentCount_eq]
    exact sentIn_posted fun r mem => sent_requeued mem
  have generation : (generationNow (helloDone s)).toNat =
      if (helloDone s).prof.active.isNone then 0 else (helloDone s).prof.generation.toNat := by
    unfold generationNow
    cases (helloDone s).prof.active <;> rfl
  unfold helloBody State.helloFields
  rw [posted, sent, generation]
  rfl

/-- A HELLO that may be taken is taken, in any session state (R141, R145). -/
theorem hello_taken {f : Frame} {s : State} (h : MayTake (· = 0x01#8) f s) :
    exec .hello s =
      .next (((answerHello f.body (taken s)).state.queueReply
        (mkFrame (replyKind f.kind) f.tag (answerHello f.body (taken s)).body) false).kick) := by
  obtain ⟨head, isKind, taking, room, noGrant⟩ := h
  have takes : s.takes (fun k => decide (k = 0x01#8)) = some f :=
    State.takes_eq_some.mpr ⟨head, by simpa using isKind, taking, room⟩
  change execHello s = _
  simp only [execHello, takeGrant_of_not_GrantDue noGrant, takes]
  rfl

/-- Settles O17: the model's opening of the session, and its fields in the state that it leaves. -/
theorem helloOpensTheSession : Obligations.HelloOpensTheSession := by
  intro f s h empty
  have answer : answerHello f.body (taken s) = Answer.ok (helloDone (taken s)) (helloDone (taken s)).helloFields := by
    rw [answerHello, if_neg (by simp [empty]), helloDone_eq]
  refine ⟨_, hello_taken h, ?_⟩
  rw [answer, helloBody_eq]
  exact lineTaken_kick _

/-! ### GRANT (R112, R158) -/

/-- A GRANT that reaches step 5 of R142 is executed with no report before its reply (R112). -/
theorem executedReplyFirst_takeRequest {kind : Byte} {f : Frame} {s : State} (h : MayExecute kind f s)
    (own : List Byte → State → Answer) {body : List Byte} {t : State}
    (answer : own f.body (taken s) = { state := t, body := body }) :
    ExecutedReplyFirst f body t (s.takeRequest false kind own) := by
  have eq : (taken s).executeRequest false f own = (State.queueReply (replyTo f body) false (cached f body t)).kick := by
    simp only [State.executeRequest, answer, cached, cacheWith_eq]
    rfl
  rw [takeRequest_of_mayExecute h, eq]
  exact lineTaken_kick _

/-- Settles O18: the range of the count, and the model's clamp. -/
theorem grantLendsClampedCredit : Obligations.GrantLendsClampedCredit := by
  intro f n s h body
  have count : u8 f.body 0 = n.toNat := u8_one body
  refine ⟨fun inRange => ⟨_, rfl, executedReplyFirst_takeRequest h answerGrant ?_⟩,
    fun outside => ⟨_, rfl, executedReplyFirst_takeRequest h answerGrant ?_⟩⟩ <;>
    rw [answerGrant, if_neg (length_one body), count]
  · rw [if_pos inRange, ← sentCount_eq]
    rfl
  · exact if_neg (by omega)

/-! ### Reports posted and lost (R107, R109) -/

theorem bump_eq_raised (n : Nat) : bump n = raised n := by
  unfold bump raised
  split <;> omega

theorem raised_pos (n : Nat) : 0 < raised n := by
  unfold raised
  split <;> omega

/-- A lost count above 0 becomes a LOSS report where a slot is FREE (R109). -/
theorem settleLoss_eq (time : DWord) {st : Store} (lost : 0 < st.lost) :
    st.settleLoss time = if st.records.length < 64 then withLoss time st.lost st else st := by
  obtain ⟨none | full, eq⟩ | ⟨-, free, eq⟩ := st.settleLoss_cases time <;> rw [eq]
  · omega
  · rw [free_eq] at full
    rw [if_neg (by omega)]
  · rw [free_eq] at free
    rw [if_pos (by omega)]
    rfl

/-- A report that finds a loss, or too few FREE slots, is counted lost (R107). -/
theorem post_lost (time : DWord) {ps : List Payload} {st : Store} (why : 0 < st.lost ∨ st.free < ps.length) :
    st.post time ps =
      if st.records.length < 64 then withLoss time (raised st.lost) st else { st with lost := raised st.lost } := by
  have lost : 0 < ({ st with lost := bump st.lost } : Store).lost := bump_eq_raised st.lost ▸ raised_pos st.lost
  rw [Store.post, if_neg (by omega), settleLoss_eq time lost, bump_eq_raised]
  rfl

/-- One that finds none and room is placed whole (R107). -/
theorem post_placed (time : DWord) {ps : List Payload} {st : Store} (none : st.lost = 0) (fits : ps.length ≤ st.free) :
    st.post time ps = st.append time ps :=
  if_pos ⟨none, fits⟩

/-! ### SNAPSHOT (R105, R161) -/

theorem eightFrom_eq {first : Nat} (inRange : first + 8 ≤ 24) (s : State) : eightFrom first s = s.latestFrom first 8 := by
  refine List.ext_getElem (by simp [eightFrom, latestFrom_length s inRange]) fun i lt _ => ?_
  have lt' : i < 8 := by simpa [eightFrom] using lt
  have inList : first + i < 24 := by omega
  simp [eightFrom, State.latestFrom, inList]

/-- Three records carry consecutive numbers, the first one FIRST and the last one LAST (R103, R106). -/
theorem append_three (time : DWord) (a b c : Payload) (st : Store) :
    st.append time [a, b, c] =
      { st with
        records := st.records ++ [newRecord time st.counter true false a, newRecord time (st.counter + 1) false false b,
          newRecord time (st.counter + 2) false true c]
        counter := st.counter + 3 } := by
  have third : st.counter + 1 + 1 = st.counter + 2 := BitVec.add_assoc st.counter 1 1
  rw [← third]
  rfl

/-- Settles O21: a report in FREE slots is placed, any other is counted lost, and the answer tells which. -/
theorem snapshotIsPostedOrCountedLost : Obligations.SnapshotIsPostedOrCountedLost := by
  refine ⟨fun p s room => ⟨fun none some => ?_, fun lost => ?_, rfl⟩,
    fun f s h empty room => ⟨fun none some => ?_, fun lost => ?_⟩⟩
  · rw [State.post, post_placed _ none (by rw [free_eq, List.length_singleton]; omega)]
    rfl
  · rw [State.post, post_lost _ (by rw [free_eq, List.length_singleton]; omega)]
  · refine ⟨_, rfl, executed_takeRequest h answerSnapshot ?_⟩
    have free : 3 ≤ (taken s).store.free := by change 3 ≤ 64 - s.store.records.length; omega
    have none' : (taken s).store.lost = 0 := none
    rw [answerSnapshot, if_neg (by simp [empty]), if_pos ⟨none', free⟩, State.post,
      post_placed (ps := (taken s).snapshotReport) _ none' free, State.snapshotReport, append_three,
      eightFrom_eq (by decide), eightFrom_eq (by decide), eightFrom_eq (by decide)]
    rfl
  · refine ⟨_, rfl, executed_takeRequest h answerSnapshot ?_⟩
    have why : 0 < (taken s).store.lost ∨ (taken s).store.free < 3 := by
      change 0 < s.store.lost ∨ 64 - s.store.records.length < 3
      omega
    rw [answerSnapshot, if_neg (by simp [empty]), if_neg (by omega), State.post, post_lost _ why]
    rfl

/-! ### ACK (R116, R117, R159) -/

/-- The records that an ACK names end in the first SENT one of its number. -/
theorem upToNumber_eq {number : Word} {older newer : List Record} {r : Record}
    (first : ∀ x ∈ older, ¬ (x.sent = true ∧ x.number = number)) (sent : r.sent = true) (named : r.number = number) :
    upToNumber number (older ++ r :: newer) = some (older ++ [r]) := by
  induction older with
  | nil => exact if_pos ⟨sent, named⟩
  | cons x older ih =>
    obtain ⟨other, rest⟩ := List.forall_mem_cons.mp first
    rw [List.cons_append, upToNumber, if_neg other, ih rest]
    rfl

/-- What an ACK that frees these records leaves (R109, R117). -/
theorem freeOldest_eq (time : DWord) {st : Store} {freed rest : List Record} (records : st.records = freed ++ rest)
    (room : st.records.length ≤ 64) :
    st.freeOldest time freed.length =
      if freed ≠ [] ∧ 0 < st.lost then withLoss time st.lost { st with records := rest }
      else { st with records := rest } := by
  have left : st.records.drop freed.length = rest := by rw [records, List.drop_left]
  by_cases some : freed = []
  · subst some
    rw [Store.freeOldest, if_pos List.length_nil, if_neg (by simp)]
    rw [List.nil_append] at records
    rw [← records]
  · have many : freed.length ≠ 0 := by simpa using some
    rw [Store.freeOldest, if_neg many, left]
    by_cases lost : 0 < st.lost
    · rw [records, List.length_append] at room
      rw [settleLoss_eq (st := { st with records := rest }) time lost, if_pos (by dsimp only; omega), if_pos ⟨some, lost⟩]
    · rw [if_neg fun h => lost h.2]
      exact if_neg fun h => lost h.1

/-- Settles O19: the model frees the whole reports at the front of the records that the ACK names. -/
theorem ackFreesWholeReports : Obligations.AckFreesWholeReports := by
  intro f s h length room number
  refine ⟨fun unnamed => ⟨_, rfl, executed_takeRequest h answerAck ?_⟩, fun older newer r records first sent named => ?_⟩
  · have none : (taken s).store.ackCount number = none := by
      change s.store.ackCount number = none
      rw [Store.ackCount, upToNumber_none.mpr unnamed]
    rw [answerAck, if_neg (not_not_intro length), none]
    rfl
  · obtain ⟨freed, kept, split, counted, inside, ends⟩ := wholeReports_spec (older ++ [r])
    refine ⟨freed, kept, split, inside, ends, _, rfl, executed_takeRequest h answerAck ?_⟩
    have count : (taken s).store.ackCount number = some freed.length := by
      change s.store.ackCount number = some freed.length
      rw [Store.ackCount, records, upToNumber_eq first sent named, counted]
    have parts : s.store.records = freed ++ (kept ++ newer) := by
      rw [records, ← List.append_assoc, ← split, List.append_assoc, List.singleton_append]
    have left : (taken s).store.freeOldest (taken s).timeBase freed.length = _ := freeOldest_eq s.timeBase parts room
    rw [answerAck, if_neg (not_not_intro length), count]
    dsimp only
    rw [left]
    rfl

end Sys2Proof.Proofs
end

section
/-! PROOFS. Taking a request: which requests are answered without their owner, and what the owners refuse by length; and the RESET
request (O13, O14, O15, O34). -/

namespace Sys2Proof.Proofs

open Sys2Proof.Machine Sys2Proof.Safety Sys2Proof.Claims

/-! ### The owners keep the session (R139, R140) -/

section

variable (b : List Byte) (s : State)

@[simp] theorem answerGrant_session : (answerGrant b s).state.session = s.session := by
  unfold answerGrant
  repeat' split
  all_goals rfl

@[simp] theorem answerAck_session : (answerAck b s).state.session = s.session := by
  unfold answerAck
  repeat' split
  all_goals rfl

@[simp] theorem answerResend_session : (answerResend b s).state.session = s.session := by
  unfold answerResend
  split <;> rfl

@[simp] theorem answerSnapshot_session : (answerSnapshot b s).state.session = s.session := by
  unfold answerSnapshot
  split <;> rfl

@[simp] theorem answerDemandOn_session (ns : List LoadIx) : (answerDemandOn ns s).state.session = s.session := by
  unfold answerDemandOn
  dsimp only
  split <;> simp [demandReply]

@[simp] theorem answerDemand_session : (answerDemand b s).state.session = s.session := by
  unfold answerDemand
  repeat' split
  all_goals simp [demandReply]

@[simp] theorem answerClear_session : (answerClear b s).state.session = s.session := by
  unfold answerClear
  repeat' split
  all_goals rfl

@[simp] theorem answerSetLoad_session : (answerSetLoad b s).state.session = s.session := by
  unfold answerSetLoad
  repeat' split
  all_goals rfl

@[simp] theorem answerReadLoad_session : (answerReadLoad b s).state.session = s.session := by
  unfold answerReadLoad
  repeat' split
  all_goals rfl

@[simp] theorem answerForceLevel_session : (answerForceLevel b s).state.session = s.session := by
  unfold answerForceLevel
  repeat' split
  all_goals simp

@[simp] theorem answerSetLadder_session : (answerSetLadder b s).state.session = s.session := by
  unfold answerSetLadder
  repeat' split
  all_goals simp [State.configureLadder]

theorem configureCutoff_session (table : Vector Nat 4) : (s.configureCutoff table).session = s.session := by
  simp only [State.configureCutoff, State.considerGrant_session]
  split <;> simp

@[simp] theorem answerSetCutoff_session : (answerSetCutoff b s).state.session = s.session := by
  unfold answerSetCutoff
  repeat' split
  all_goals simp [configureCutoff_session]

@[simp] theorem answerReadSeverity_session : (answerReadSeverity b s).state.session = s.session := by
  unfold answerReadSeverity
  repeat' split
  all_goals rfl

@[simp] theorem answerSetScan_session : (answerSetScan b s).state.session = s.session := by
  unfold answerSetScan
  repeat' split
  all_goals simp [State.configureScan]

@[simp] theorem answerSetChannel_session : (answerSetChannel b s).state.session = s.session := by
  unfold answerSetChannel
  repeat' split
  all_goals rfl

@[simp] theorem answerReadChannels_session : (answerReadChannels b s).state.session = s.session := by
  unfold answerReadChannels
  repeat' split
  all_goals rfl

@[simp] theorem answerSetWatch_session : (answerSetWatch b s).state.session = s.session := by
  unfold answerSetWatch
  repeat' split
  all_goals rfl

@[simp] theorem answerAckWatch_session : (answerAckWatch b s).state.session = s.session := by
  unfold answerAckWatch
  repeat' split
  all_goals rfl

@[simp] theorem answerReadWatch_session : (answerReadWatch b s).state.session = s.session := by
  unfold answerReadWatch
  repeat' split
  all_goals rfl

/-- SET GLOBALS restarts or cancels the silence timer, and nothing else of the session (R155). -/
@[simp] theorem answerSetGlobals_session_state : (answerSetGlobals b s).state.session.state = s.session.state := by
  unfold answerSetGlobals State.configureGlobals State.retimeSilence State.restartSilence
  repeat' split
  all_goals simp

@[simp] theorem answerReadSystem_session : (answerReadSystem b s).state.session = s.session := by
  unfold answerReadSystem
  split <;> rfl

@[simp] theorem answerReadLink_session : (answerReadLink b s).state.session = s.session := by
  unfold answerReadLink
  repeat' split
  all_goals rfl

@[simp] theorem answerSave_session : (answerSave b s).state.session = s.session := by
  unfold answerSave
  repeat' split
  all_goals rfl

/-- RESET closes taking, and changes nothing else of the session (R154). -/
@[simp] theorem answerReset_session_state : (answerReset b s).state.session.state = s.session.state := by
  unfold answerReset
  split <;> rfl

end

/-! ### The owner of each request (R142, R156) -/

/-- The owner of the requests of this kind, which the row c takes: what it answers is what the row executes, it refuses a body of
another length than the stated one, and it leaves the session state. -/
structure Owns (c : Instr) (kind : Byte) (offers : Bool) (own : List Byte → State → Answer) : Prop where
  exec_eq : ∀ s, exec c s = .next (s.takeRequest offers kind own)
  wrongLength : ∀ body s, bodyLength kind body ≠ some body.length → own body s = Answer.refuse .badLength s
  session : ∀ body s, (own body s).state.session.state = s.session.state

/-- The check of a fixed length stands before all others (R156). -/
theorem refuse_of_length_ne {n : Nat} {body : List Byte} (wrong : some n ≠ some body.length) (s : State) (a : Answer) :
    (if body.length ≠ n then Answer.refuse .badLength s else a) = Answer.refuse .badLength s :=
  if_pos fun same => wrong (congrArg some same.symm)

/-- SET SCAN's length follows from its entry count (R171). -/
theorem answerSetScan_of_length_ne {body : List Byte} (wrong : bodyLength 0x20#8 body ≠ some body.length) (s : State) :
    answerSetScan body s = Answer.refuse .badLength s := by
  refine if_pos (or_iff_not_imp_left.mpr fun long same => wrong ?_)
  rw [bodyLength, if_pos rfl, if_neg long, ← same]

/-- Every request but HELLO has an owner, which its row names. -/
theorem exists_owns {c : Instr} {kind : Byte} (request : requestKind c = some kind) (notHello : c ≠ .hello) :
    ∃ offers own, Owns c kind offers own := by
  cases c with
  | hello => exact absurd rfl notHello
  | setScan => cases request; exact ⟨_, _, fun _ => rfl, fun _ s wrong => answerSetScan_of_length_ne wrong s, by simp⟩
  | grant | ack | resend | snapshot | demand | clear | setLoad | readLoad | forceLevel | setLadder | setCutoff | readSeverity
  | setChannel | readChannels | setWatch | ackWatch | readWatch | setGlobals | readSystem | readLink | save | reset =>
    cases request
    exact ⟨_, _, fun _ => rfl, fun _ s wrong => refuse_of_length_ne wrong s _, by simp⟩
  | _ => cases request

/-! ### Requests that are answered without their owner (R142, R144, R152) -/

/-- A request that may be taken leaves the inbound queue and is judged (steps 3 to 5 of R142). -/
theorem takeRequest_of_mayTake {kind : Byte} {f : Frame} {s : State} (h : MayTake (· = kind) f s) (offers : Bool)
    (own : List Byte → State → Answer) : s.takeRequest offers kind own = (taken s).judgeRequest offers f own := by
  obtain ⟨head, isKind, taking, room, noGrant⟩ := h
  have takes : s.takes (fun k => decide (k = kind)) = some f :=
    State.takes_eq_some.mpr ⟨head, by simpa using isKind, taking, room⟩
  simp only [State.takeRequest, takeGrant_of_not_GrantDue noGrant, takes]
  rfl

/-- In DOWN the request is answered NO_SESSION (step 3 of R142). -/
theorem judgeRequest_of_down {s : State} (down : s.session.state = .down) (offers : Bool) (f : Frame)
    (own : List Byte → State → Answer) :
    s.judgeRequest offers f own = (s.queueReply (replyTo f [0x06#8]) false).kick :=
  if_pos down

/-- A repeat is answered with the stored reply (step 4 of R142). -/
theorem judgeRequest_of_repeat {s : State} {f : Frame} {e : CacheEntry} (notDown : s.session.state ≠ .down)
    (again : findRepeat f s.session.cache = some e) (offers : Bool) (own : List Byte → State → Answer) :
    s.judgeRequest offers f own = (s.queueReply e.reply false).kick := by
  rw [State.judgeRequest, if_neg notDown, again]

/-- With distinct tags no other entry than this one matches the request (R151, R152). -/
theorem findRepeat_of_mem {f : Frame} {cache : List CacheEntry} {e : CacheEntry} (distinct : (cache.map (·.tag)).Nodup)
    (mem : e ∈ cache) (tag : e.tag = f.tag) (crc : e.crc = f.crc) : findRepeat f cache = some e := by
  cases found : findRepeat f cache with
  | none => exact absurd ⟨tag, crc⟩ (findRepeat_none.mp found e mem)
  | some x =>
    obtain ⟨memX, tagX, -⟩ := findRepeat_some found
    rw [List.inj_on_of_nodup_map distinct memX mem (tagX.trans tag.symm)]

/-- Settles O13: the model's judgement stops at its third step, before the cache and the owner. -/
theorem downAnswersNoSession : Obligations.DownAnswersNoSession := by
  intro c kind f s request notHello h down
  obtain ⟨offers, own, owns⟩ := exists_owns request notHello
  refine ⟨_, owns.exec_eq s, ?_⟩
  rw [takeRequest_of_mayTake h, judgeRequest_of_down (s := taken s) down]
  exact lineTaken_kick _

/-- Settles O14: the model finds this entry of the cache, and its judgement stops at the fourth step, before the owner. -/
theorem repeatIsAnsweredFromTheCache : Obligations.RepeatIsAnsweredFromTheCache := by
  intro c kind f e s request notHello h notDown distinct mem tag crc
  obtain ⟨offers, own, owns⟩ := exists_owns request notHello
  refine ⟨_, owns.exec_eq s, ?_⟩
  rw [takeRequest_of_mayTake h, judgeRequest_of_repeat (s := taken s) notDown (findRepeat_of_mem distinct mem tag crc)]
  exact lineTaken_kick _

/-! ### Requests of the wrong length (R145, R156, R171) -/

/-- That no report starts before the reply is one of the outcomes of R136. -/
theorem executed_of_replyFirst {f : Frame} {body : List Byte} {own t : State} (h : ExecutedReplyFirst f body own t) :
    Executed f body false own t :=
  ⟨own.choices, own, .inl rfl, h⟩

/-- Whether a report may start before the reply or not, the request is executed. -/
theorem executed_takeRequest_any {kind : Byte} {f : Frame} {s : State} (h : MayExecute kind f s) (offers : Bool)
    (own : List Byte → State → Answer) {body : List Byte} {t : State}
    (answer : own f.body (taken s) = { state := t, body := body }) :
    Executed f body false t (s.takeRequest offers kind own) := by
  cases offers
  exacts [executed_of_replyFirst (executedReplyFirst_takeRequest h own answer), executed_takeRequest h own answer]

/-- Settles O15: every owner checks the length first, and HELLO, which has no cache entry, does so too. -/
theorem wrongLengthIsRefused : Obligations.WrongLengthIsRefused := by
  refine ⟨fun f s h long => ⟨_, hello_taken h, ?_⟩, fun c kind f s request notHello h wrong => ?_⟩
  · have answer : answerHello f.body (taken s) = Answer.refuse .badLength (taken s) := if_pos (by simpa using long)
    rw [answer]
    exact lineTaken_kick _
  · obtain ⟨offers, own, owns⟩ := exists_owns request notHello
    exact ⟨_, owns.exec_eq s, executed_takeRequest_any h offers own (owns.wrongLength f.body (taken s) wrong)⟩

/-! ### RESET (R154, R181, R190) -/

/-- Settles O34: the end of the marked reply is one of the resets of O9, and RESET's owner closes taking. -/
theorem resetRequestClosesTaking : Obligations.ResetRequestClosesTaking := by
  refine ⟨fun r s sending resets => ?_, fun f s h empty => ⟨_, rfl, executed_takeRequest h answerReset ?_⟩⟩
  · obtain ⟨reset, -⟩ := resetsGiveEveryBlockItsResetValues s
    obtain ⟨t, eq, held, blocks, stopped, cause, -⟩ :=
      reset .lineFrees .request (.inr (.inr ⟨rfl, rfl, r, sending, resets⟩))
    exact ⟨t, eq, held, blocks, stopped, cause⟩
  · rw [answerReset, if_neg (by simp [empty])]
    rfl

end Sys2Proof.Proofs
end

section
/-! PROOFS. The session state at every command (O58). -/

namespace Sys2Proof.Proofs

open Sys2Proof.Machine Sys2Proof.Safety Sys2Proof.Claims

/-! ### Operations that keep the session state (R140) -/

/-- A request keeps the session state where its owner does. -/
theorem takeRequest_session_state {own : List Byte → State → Answer}
    (keeps : ∀ b u, (own b u).state.session.state = u.session.state) (offers : Bool) (kind : Byte) (s : State) :
    (s.takeRequest offers kind own).session.state = s.session.state := by
  rw [State.takeRequest_after_grant]
  obtain ⟨-, eq⟩ | ⟨f, -, ⟨-, eq⟩ | ⟨-, e, -, eq⟩ | ⟨-, -, eq⟩⟩ :=
    State.takeRequest_cases offers kind own s.takeGrant_grantDue <;> rw [eq]
  · simp
  · simp
  · simp
  · unfold State.executeRequest
    cases offers <;> simp [keeps]

/-- An expiry keeps the session state where its event does, whatever grant and time come before. -/
theorem expiry_session_state {event : State → State} (keeps : ∀ u, (event u).session.state = u.session.state) (t : Timer)
    (s : State) : (s.takeGrant.whenDue t event).session.state = s.session.state := by
  obtain ⟨-, eq⟩ | ⟨-, -, eq⟩ := s.takeGrant.whenDue_cases t event <;> rw [eq] <;> simp [keeps]

/-- As for an expiry, of a load or a block that may be in another state. -/
theorem expiry_if_session_state {event : State → State} (keeps : ∀ u, (event u).session.state = u.session.state) (t : Timer)
    (s : State) (p : Prop) [Decidable p] :
    (if p then s.takeGrant.whenDue t event else s.takeGrant).session.state = s.session.state := by
  split
  exacts [expiry_session_state keeps t s, by simp]

section

variable (s : State)

theorem gapExpires_session : s.gapExpires.session = s.session := by
  simp [State.gapExpires]

theorem holdExpires_session : s.holdExpires.session = s.session := by
  simp [State.holdExpires]

theorem pgQualifies_session (n : LoadIx) : (s.pgQualifies n).session = s.session := by
  unfold State.pgQualifies
  dsimp only
  split <;> simp

theorem killQualifies_session : s.killQualifies.session = s.session := by
  unfold State.killQualifies
  dsimp only
  split <;> simp

theorem shedQualifies_session : s.shedQualifies.session = s.session := by
  unfold State.shedQualifies
  dsimp only
  split <;> simp

theorem endSave_session (v : Save) (verified : Bool) : (s.endSave v verified).session = s.session := by
  cases verified <;> rfl

theorem startupReports_session : s.startupReports.session = s.session := by
  rw [startupReports_eq]
  unfold startupShedInput startupKilled
  split <;> split <;> simp

/-- Start-up opens taking and leaves the session DOWN (R139, R195). -/
theorem completeStartup_session_state (asInh : PinLevel) :
    (s.completeStartup asInh).session.state = s.session.state := by
  unfold State.completeStartup State.startRunning
  dsimp only
  split <;> simp [startupReports_session, State.selectProfile]

end

/-! ### A byte (R131, R147, R149) -/

/-- The byte b is the second CRC byte of the open frame, and the CRC so received is the frame's own (R131, R200). -/
def CompletesGoodFrame (b : Byte) (s : State) : Prop :=
  ∃ kind tag bytes low, s.link.framer = .check kind tag bytes (some low) ∧ (b ++ low : Word) = frameCrc kind tag bytes

/-- A frame that closes leaves the session state, unless it is good and the session LOST. -/
theorem closeFrame_session_state (f : Frame) (s : State) :
    (s.closeFrame f).session.state = s.session.state ∨
      (s.session.state = .lost ∧ (s.closeFrame f).session.state = .up ∧ frameCrc f.kind f.tag f.body = f.crc) := by
  obtain ⟨good, eq⟩ | ⟨-, eq⟩ := s.closeFrame_cases f <;> rw [eq]
  · rw [State.queueInbound_session]
    obtain ⟨-, notice⟩ | ⟨-, -, notice⟩ | ⟨-, -, notice⟩ | ⟨lost, notice⟩ :=
      (s.setFramer .hunt).noticeGoodFrame_cases f.kind f.tag <;> rw [notice]
    exacts [.inl rfl, .inl rfl, .inl rfl, .inr ⟨lost, rfl, good⟩]
  · exact .inl rfl

/-- A byte leaves the session state, unless it completes a good frame and the session is LOST. -/
theorem frameByte_session_state (b : Byte) (s : State) :
    (s.frameByte b).session.state = s.session.state ∨
      (s.session.state = .lost ∧ (s.frameByte b).session.state = .up ∧ CompletesGoodFrame b s) := by
  unfold State.frameByte CompletesGoodFrame
  split
  case h_7 kind tag bytes low framer =>
    obtain same | ⟨lost, up, good⟩ := closeFrame_session_state { kind, tag, body := bytes, crc := b ++ low } s
    exacts [.inl same, .inr ⟨lost, up, kind, tag, bytes, low, framer, good.symm⟩]
  case h_1 | h_2 => left; split <;> rfl
  all_goals exact .inl rfl

/-! ### The table of R140 -/

/-- The session state that a command leaves: the one before it, or what a row of R140's table or a reset gives. -/
inductive SessionRow (c : Instr) (s : State) : SessionState → Prop
  | stays : SessionRow c s s.session.state
  | opened (hello : c = .hello) : SessionRow c s .up
  | lost (up : s.session.state = .up) (expires : c = .silenceExpiry) : SessionRow c s .lost
  | returned {b : Byte} (lost : s.session.state = .lost) (arrives : c = .byteArrival b false)
      (good : CompletesGoodFrame b s) : SessionRow c s .up
  | reset (takes : takesReset c s) : SessionRow c s .down

theorem SessionRow.of_eq {c : Instr} {s : State} {st : SessionState} (same : st = s.session.state) : SessionRow c s st :=
  same ▸ .stays

section

variable (s : State)

/-- A HELLO of length 0 opens the session; any other changes nothing of it (R145). -/
theorem sessionRow_hello : ∃ t, execHello s = .next t ∧ SessionRow .hello s t.session.state := by
  unfold execHello
  dsimp only
  split
  · exact ⟨_, rfl, .of_eq (by simp)⟩
  · refine ⟨_, rfl, ?_⟩
    unfold answerHello
    split
    · exact .of_eq (by simp)
    · rw [State.kick_session]
      exact .opened rfl

theorem sessionRow_badKindFrame : ∃ t, execBadKindFrame s = .next t ∧ SessionRow .badKindFrame s t.session.state := by
  unfold execBadKindFrame
  dsimp only
  split <;> exact ⟨_, rfl, .of_eq (by simp)⟩

theorem sessionRow_byteArrival (b : Byte) (stopError : Bool) :
    ∃ t, execByteArrival b stopError s = .next t ∧ SessionRow (.byteArrival b stopError) s t.session.state := by
  refine ⟨_, rfl, ?_⟩
  cases s.link.rxEnabled with
  | false => exact .stays
  | true =>
    cases stopError with
    | true => exact .of_eq (by simp [State.framingError])
    | false =>
      simp only [if_true, Bool.false_eq_true, if_false, State.kick_session]
      obtain same | ⟨lost, up, good⟩ := frameByte_session_state b s
      exacts [.of_eq same, up ▸ .returned lost rfl good]

/-- The end of a marked reply is a reset (R154). -/
theorem sessionRow_lineFrees : ∃ t, execLineFrees s = .next t ∧ SessionRow .lineFrees s t.session.state := by
  unfold execLineFrees
  split
  · exact ⟨_, rfl, .stays⟩
  · exact ⟨_, rfl, .of_eq (by simp)⟩
  case h_3 r sending =>
    refine ⟨_, rfl, ?_⟩
    split
    case isTrue resets => exact .reset (.inr (.inr (.inr ⟨rfl, r, sending, resets⟩)))
    case isFalse => exact .of_eq (by simp)

theorem sessionRow_pinReset : ∃ t, execPinReset s = .next t ∧ SessionRow .pinReset s t.session.state := by
  refine ⟨_, rfl, ?_⟩
  split
  exacts [.stays, .reset (.inr (.inl rfl))]

theorem sessionRow_readingArrival (raw : Nat) :
    ∃ t, execReadingArrival raw s = .next t ∧ SessionRow (.readingArrival raw) s t.session.state := by
  unfold execReadingArrival
  dsimp only
  split
  · exact ⟨_, rfl, .of_eq (by simp)⟩
  · exact ⟨_, rfl, .of_eq (by simp)⟩
  · exact ⟨_, rfl, .of_eq (by split <;> simp)⟩

theorem sessionRow_ladderEvaluation :
    ∃ t, execLadderEvaluation s = .next t ∧ SessionRow .ladderEvaluation s t.session.state := by
  unfold execLadderEvaluation
  split <;> exact ⟨_, rfl, .of_eq (by simp)⟩

theorem sessionRow_watchEvaluation :
    ∃ t, execWatchEvaluation s = .next t ∧ SessionRow .watchEvaluation s t.session.state := by
  unfold execWatchEvaluation
  split <;> exact ⟨_, rfl, .of_eq (by simp)⟩

theorem sessionRow_loadReading : ∃ t, execLoadReading s = .next t ∧ SessionRow .loadReading s t.session.state := by
  unfold execLoadReading
  split <;> exact ⟨_, rfl, .of_eq (by simp)⟩

/-- The silence timer's event is the loss of the host, and in another state than UP it has none (R147, R148). -/
theorem sessionRow_silenceExpiry : ∃ t, execSilenceExpiry s = .next t ∧ SessionRow .silenceExpiry s t.session.state := by
  refine ⟨_, rfl, ?_⟩
  split
  case isFalse => exact .of_eq (by simp)
  case isTrue up =>
    rw [State.takeGrant_session] at up
    obtain ⟨-, eq⟩ | ⟨-, -, eq⟩ := s.takeGrant.whenDue_cases s.takeGrant.session.silence State.loseHost <;> rw [eq]
    · exact .of_eq (by simp)
    · have lost : ∀ u : State, u.loseHost.session.state = .lost := fun u => by simp [State.loseHost]
      rw [State.kick_session, lost]
      exact .lost up rfl

theorem sessionRow_saveEnd (verified : Bool) :
    ∃ t, execSaveEnd verified s = .next t ∧ SessionRow (.saveEnd verified) s t.session.state := by
  unfold execSaveEnd
  dsimp only
  split
  · exact ⟨_, rfl, .of_eq (by simp)⟩
  · exact ⟨_, rfl, .of_eq (expiry_session_state (fun u => by rw [endSave_session]) _ s)⟩

end

/-- Every command, in every state, leaves the session state by the table of R140. -/
theorem exec_sessionRow (c : Instr) (s : State) : ∃ t, exec c s = .next t ∧ SessionRow c s t.session.state := by
  have expiry : ∀ {event : State → State}, (∀ u, (event u).session = u.session) →
      ∀ t, SessionRow c s (s.takeGrant.whenDue t event).session.state :=
    fun keeps t => .of_eq (expiry_session_state (fun u => by rw [keeps]) t s)
  have expiryIf : ∀ {event : State → State}, (∀ u, (event u).session = u.session) → ∀ t (p : Prop) [Decidable p],
      SessionRow c s (if p then s.takeGrant.whenDue t event else s.takeGrant).session.state :=
    fun keeps t p _ => .of_eq (expiry_if_session_state (fun u => by rw [keeps]) t s p)
  cases request : requestKind c with
  | some kind =>
    by_cases hello : c = .hello
    · exact hello ▸ sessionRow_hello s
    · obtain ⟨offers, own, owns⟩ := exists_owns request hello
      exact ⟨_, owns.exec_eq s, .of_eq (takeRequest_session_state owns.session offers kind s)⟩
  | none =>
    cases c with
    | badKindFrame => exact sessionRow_badKindFrame s
    | byteArrival b stopError => exact sessionRow_byteArrival s b stopError
    | interbyteTimeout => exact ⟨_, rfl, expiry (event := State.interbyteExpires) (fun _ => rfl) _⟩
    | lineFrees => exact sessionRow_lineFrees s
    | powerOnReset => exact ⟨_, rfl, .reset (.inl rfl)⟩
    | pinReset => exact sessionRow_pinReset s
    | resetEnd br1 br0 asInh => exact ⟨_, rfl, .of_eq (by split <;> rfl)⟩
    | profileSelection asInh => exact ⟨_, rfl, .of_eq (by split <;> simp [completeStartup_session_state])⟩
    | readingArrival raw => exact sessionRow_readingArrival s raw
    | pauseExpiry => exact ⟨_, rfl, expiryIf (event := State.pauseExpires) (fun _ => rfl) _ _⟩
    | ladderEvaluation => exact sessionRow_ladderEvaluation s
    | watchEvaluation => exact sessionRow_watchEvaluation s
    | loadReading => exact sessionRow_loadReading s
    | startGrant => exact ⟨_, rfl, .of_eq (by simp)⟩
    | settleExpiry n => exact ⟨_, rfl, expiryIf (State.settleExpires_session n) _ _⟩
    | cleanRunExpiry n => exact ⟨_, rfl, expiryIf (State.cleanRunExpires_session n) _ _⟩
    | backoffExpiry n => exact ⟨_, rfl, expiryIf (State.backoffExpires_session n) _ _⟩
    | gapExpiry => exact ⟨_, rfl, expiry gapExpires_session _⟩
    | restoreHoldExpiry => exact ⟨_, rfl, expiry holdExpires_session _⟩
    | silenceExpiry => exact sessionRow_silenceExpiry s
    | saveEnd verified => exact sessionRow_saveEnd s verified
    | pgPinChange | killPinChange | shedPinChange => exact ⟨_, rfl, .stays⟩
    | pgQualified n => exact ⟨_, rfl, expiry (fun u => pgQualifies_session u n) _⟩
    | killQualified => exact ⟨_, rfl, expiry killQualifies_session _⟩
    | shedQualified => exact ⟨_, rfl, expiry shedQualifies_session _⟩
    | powerLoss => exact ⟨_, rfl, .reset (.inr (.inr (.inl rfl)))⟩
    | _ => cases request

/-- Settles O58: a session state other than before is one that a row of the table gives, or DOWN at a reset. -/
theorem sessionStateFollowsItsTable : Obligations.SessionStateFollowsItsTable := by
  intro c s t h changed
  obtain ⟨t', eq, row⟩ := exec_sessionRow c s
  obtain rfl := Host.Outcome.next.inj (h.symm.trans eq)
  generalize t.session.state = after at changed row
  cases row with
  | stays => exact absurd rfl changed
  | opened hello =>
    cases before : s.session.state with
    | down => exact .inl ⟨rfl, rfl, hello⟩
    | up => exact absurd before.symm changed
    | lost => exact .inr (.inr (.inl ⟨rfl, rfl, .inl hello⟩))
  | lost up expires => exact .inr (.inl ⟨up, rfl, expires⟩)
  | @returned b lost arrives good =>
    obtain ⟨kind, tag, bytes, low, framer, crc⟩ := good
    exact .inr (.inr (.inl ⟨lost, rfl, .inr ⟨b, kind, tag, bytes, low, arrives, framer, crc⟩⟩))
  | reset takes => exact .inr (.inr (.inr ⟨rfl, takes⟩))

end Sys2Proof.Proofs
end

section
/-! PROOFS. The requests RESEND, CLEAR and SET CHANNEL (O20, O24, O31). -/

namespace Sys2Proof.Proofs

open Sys2Proof.Machine Sys2Proof.Safety Sys2Proof.Claims

/-! ### Requests of the wrong length (R156) -/

/-- A request of this kind, the row c's, whose body has not the stated length is answered BAD_LENGTH and changes nothing. -/
theorem badLength_executed {c : Instr} {kind : Byte} {f : Frame} {s : State} {n : Nat} (h : MayExecute kind f s)
    (request : requestKind c = some kind) (notHello : c ≠ .hello) (stated : bodyLength kind f.body = some n)
    (wrong : f.body.length ≠ n) : ∃ t, exec c s = .next t ∧ Executed f [0x02#8] false (taken s) t :=
  wrongLengthIsRefused.2 c kind f s request notHello h fun same =>
    wrong (Option.some.inj (same.symm.trans stated))

/-! ### RESEND (R118, R119, R160) -/

/-- Where no record is SENT, none is requeued. -/
theorem requeued_of_sentIn_eq_zero {rs : List Record} (none : sentIn rs = 0) : requeued rs = rs := by
  have posted : ∀ r ∈ rs, (if r.sent then { r with sent := false, resent := true } else r) = r := fun r mem =>
    if_neg (List.countP_eq_zero.mp none r mem)
  rw [requeued, List.map_congr_left posted, List.map_id']

/-- Settles O20: the model's requeue of the store, and the count of the records that it finds SENT. -/
theorem resendReturnsEverySentRecord : Obligations.ResendReturnsEverySentRecord := by
  intro f s h
  refine ⟨fun empty => ⟨_, rfl, executed_takeRequest h answerResend ?_⟩, fun long => ?_, requeued_of_sentIn_eq_zero⟩
  · rw [answerResend, if_neg (by simp [empty]), sentCount_eq]
    rfl
  · exact badLength_executed h rfl (by decide) rfl (mt List.eq_nil_of_length_eq_zero long)

/-! ### CLEAR (R23, R164) -/

/-- A LOCKED load holds nothing of the sequencer, no timer and no streak: OFF replaces its state alone, beside demand and retries,
and its trip cause stays (R23). -/
theorem clearLoad_of_locked {n : LoadIx} {s : State} (locked : s.loads[n].state = .locked) :
    s.clearLoad n =
      { s with
        loads := s.loads.set n { s.loads[n] with state := .off, demand := false, retries := 0 }
        store := s.store.post s.timeBase [.loadState n .locked .off .clear 0 (s.lastCurrent n)] } := by
  have left : LoadRec.leave { s.loads[n] with demand := false, retries := 0 } =
      { s.loads[n] with demand := false, retries := 0 } := by
    simp only [LoadRec.leave, locked]
  rw [State.clearLoad, moveLoad_setLoad, left, locked]
  rfl

/-- Settles O24: the load number, the state of the load, and the model's clearing of a LOCKED one, which asks nothing of KILL. -/
theorem clearReleasesALockedLoad : Obligations.ClearReleasesALockedLoad := by
  intro f s h
  have known : ∀ {b : Byte} {n : LoadIx}, f.body = [b] → b.toNat = n.val → answerClear f.body (taken s) =
      if s.loads[n].state = .locked then Answer.ok ((taken s).clearLoad n) [] else Answer.refuse .badState (taken s) :=
    fun body is => by rw [answerClear, if_neg (length_one body), u8_one body, is, load?_val]; rfl
  refine ⟨fun wrong => badLength_executed h rfl (by decide) rfl wrong,
    fun b body noLoad => ⟨_, rfl, executed_takeRequest h answerClear ?_⟩,
    fun b n body is notLocked => ⟨_, rfl, executed_takeRequest h answerClear ?_⟩,
    fun b n body is locked => ⟨_, rfl, executed_takeRequest h answerClear ?_⟩⟩
  · rw [answerClear, if_neg (length_one body), u8_one body, load?, dif_neg (by omega)]
    rfl
  · rw [known body is, if_neg notLocked]
    rfl
  · rw [known body is, if_pos locked, clearLoad_of_locked (s := taken s) locked]
    rfl

/-! ### SET CHANNEL (R87, R172) -/

/-- Gain and offset are taken as they stand: a body is refused by its fault detect alone. -/
theorem channelConfig_ofBody_eq_none {b : List Byte} (outside : 1 < u8 b 5) : ChannelConfig.ofBody b = none := by
  rw [ChannelConfig.ofBody, yesNo?_eq_none (by omega) (by omega)]

theorem channelConfig_ofBody_of_le {b : List Byte} (inside : u8 b 5 ≤ 1) :
    ChannelConfig.ofBody b = some { gain := u16 b 1, offset := s16 b 3, faultDetect := decide (u8 b 5 = 1) } := by
  have faultDetect : u8 b 5 = (decide (u8 b 5 = 1)).toNat := by
    by_cases yes : u8 b 5 = 1
    · rw [decide_eq_true yes, yes]; rfl
    · rw [decide_eq_false yes, Bool.toNat_false]; omega
  exact channelConfig_ofBody.mpr ⟨rfl, rfl, faultDetect⟩

/-- Settles O31: the channel's number and the fault detect are the two checks, and the model's replacement keeps all else. -/
theorem setChannelReplacesItsThreeFields : Obligations.SetChannelReplacesItsThreeFields := by
  intro f s h
  refine ⟨fun wrong => badLength_executed h rfl (by decide) rfl wrong,
    fun length bad => ⟨_, rfl, executed_takeRequest h answerSetChannel ?_⟩,
    fun length ch is inside => ⟨_, rfl, executed_takeRequest h answerSetChannel ?_⟩⟩ <;>
    rw [answerSetChannel, if_neg (not_not_intro length)]
  · obtain noChannel | noConfig := bad
    · rw [chan?, dif_neg (by omega)]
      rfl
    · rw [channelConfig_ofBody_eq_none noConfig]
      cases chan? (u8 f.body 0) <;> rfl
  · rw [chan?_eq_some.mpr is, channelConfig_ofBody_of_le inside]
    rfl

end Sys2Proof.Proofs
end

section
/-! PROOFS. The selection of the profile at start-up (O11). -/

namespace Sys2Proof.Proofs

open Sys2Proof.Machine Sys2Proof.Safety Sys2Proof.Claims

/-! ### VALID slots (R183) -/

/-- The claims' generation of a slot is the one it is judged VALID under (log 14). -/
theorem validGeneration_eq_some {c : NvSlot} {g : DWord} : validGeneration c = some g ↔ c.judge = .valid g := by
  cases c with
  | blank | torn => exact ⟨nofun, nofun⟩
  | written gen image =>
    unfold validGeneration NvSlot.judge
    dsimp only
    cases image.ok <;> simp

theorem validGeneration_eq_none {c : NvSlot} : validGeneration c = none ↔ ∀ g, c.judge ≠ .valid g := by
  simp only [Option.eq_none_iff_forall_ne_some, ne_eq, validGeneration_eq_some]

/-- A VALID slot holds the image that is loaded from it (R193). -/
theorem heldImage_slot {p : Profile} {n : SlotName} {g : DWord} (valid : (p.slot n).judge = .valid g) :
    heldImage (p.slot n) = some (p.imageOf (some n)) := by
  unfold Profile.imageOf
  dsimp only
  cases held : p.slot n with
  | blank | torn => rw [held] at valid; cases valid
  | written => rfl

/-! ### The table of R192 -/

theorem selectSlot_valid_valid (g0 g1 : DWord) :
    selectSlot (.valid g0) (.valid g1) = some (if g0.toNat < g1.toNat then .s1 else .s0) :=
  (apply_ite some _ _ _).symm

theorem selectSlot_valid_left {k : SlotKnown} (notValid : ∀ g, k ≠ .valid g) (g0 : DWord) :
    selectSlot (.valid g0) k = some .s0 := by
  cases k with
  | valid g => exact absurd rfl (notValid g)
  | invalid | blank => rfl

theorem selectSlot_valid_right {k : SlotKnown} (notValid : ∀ g, k ≠ .valid g) (g1 : DWord) :
    selectSlot k (.valid g1) = some .s1 := by
  cases k with
  | valid g => exact absurd rfl (notValid g)
  | invalid | blank => rfl

theorem selectSlot_eq_none {k0 k1 : SlotKnown} (notValid0 : ∀ g, k0 ≠ .valid g) (notValid1 : ∀ g, k1 ≠ .valid g) :
    selectSlot k0 k1 = none := by
  cases k0 with
  | valid g => exact absurd rfl (notValid0 g)
  | invalid | blank =>
    cases k1 with
    | valid g => exact absurd rfl (notValid1 g)
    | invalid | blank => rfl

/-! ### What the selection loads (R192, R193) -/

/-- The slot chosen is the active one, under its own generation, and its image the working set. -/
theorem runsSlot_selectProfile {s : State} {n : SlotName} {g : DWord}
    (chosen : selectSlot s.prof.slot0.judge s.prof.slot1.judge = some n) (valid : (s.prof.slot n).judge = .valid g) :
    RunsSlot n g (s.prof.slot n) s.selectProfile := by
  have image : heldImage (s.prof.slot n) = some (s.prof.imageOf (some n)) := heldImage_slot valid
  unfold State.selectProfile RunsSlot
  dsimp only
  rw [chosen]
  refine ⟨rfl, ?_, image⟩
  cases n <;> exact congrArg SlotKnown.generation valid

/-- Without a choice no slot is active, and the working set holds the factory defaults. -/
theorem selectProfile_of_none {s : State} (chosen : selectSlot s.prof.slot0.judge s.prof.slot1.judge = none) :
    s.selectProfile.prof.active = none ∧ s.selectProfile.prof.generation = 0 ∧
      s.selectProfile.ws = WorkingSet.factory := by
  unfold State.selectProfile
  dsimp only
  rw [chosen]
  exact ⟨rfl, rfl, rfl⟩

/-- Only the profile store and the working set say which slot runs. -/
theorem RunsSlot.of_same {n : SlotName} {g : DWord} {c : NvSlot} {s t : State} (h : RunsSlot n g c s)
    (prof : t.prof = s.prof) (ws : t.ws = s.ws) : RunsSlot n g c t := by
  rw [RunsSlot, prof, ws]
  exact h

/-! ### The end of the 30 ms (R1, R192) -/

/-- At the end of the 30 ms, with no expiry before it, start-up completes after the expiries that the 30 ms hold. -/
theorem exec_profileSelection {asInh : PinLevel} {s : State} (selecting : s.phase = .selecting)
    (runs : s.startup ≠ .stopped) (inTime : InTime (timeLeft s.startup) s) :
    exec (.profileSelection asInh) s = .next ((s.elapse (timeLeft s.startup)).completeStartup asInh).kick := by
  have running : s.startup.isRunning = true := Bool.eq_true_of_not_eq_false (mt isRunning_eq_false.mp runs)
  rw [timeLeft_eq] at inTime ⊢
  exact congrArg Host.Outcome.next (if_pos ⟨selecting, running, inTime_iff.mp inTime⟩)

/-- Settles O11: the rest of start-up keeps what the selection leaves, and the selection follows the table row by row. -/
theorem profileSelectionFollowsItsTable : Obligations.ProfileSelectionFollowsItsTable := by
  intro asInh s selecting runs inTime
  let q := s.elapse (timeLeft s.startup)
  let t := (q.completeStartup asInh).kick
  have scene : SameScene (startedScene q) (q.completeStartup asInh) := sameScene_completeStartup q asInh
  have phase : t.phase = .running := (State.kick_phase _).trans scene.phase
  have prof : t.prof = q.selectProfile.prof := (State.kick_prof _).trans scene.prof
  have ws : t.ws = q.selectProfile.ws := (State.kick_ws _).trans scene.ws
  have slot0 : q.prof.slot0 = s.prof.slot0 := State.elapse_prof_slot0 _ s
  have slot1 : q.prof.slot1 = s.prof.slot1 := State.elapse_prof_slot1 _ s
  refine ⟨t, exec_profileSelection selecting runs inTime, phase, ?_⟩
  rw [← slot0, ← slot1]
  refine ⟨congrArg Profile.dirty prof, by rw [prof]; rfl, by rw [prof]; rfl, congrArg Profile.known0 prof,
    congrArg Profile.known1 prof, ?_⟩
  have runsSlot : ∀ {n g}, selectSlot q.prof.slot0.judge q.prof.slot1.judge = some n →
      (q.prof.slot n).judge = .valid g → RunsSlot n g (q.prof.slot n) t :=
    fun chosen valid => RunsSlot.of_same (runsSlot_selectProfile chosen valid) prof ws
  cases valid0 : validGeneration q.prof.slot0 with
  | some g0 =>
    have judged0 := validGeneration_eq_some.mp valid0
    cases valid1 : validGeneration q.prof.slot1 with
    | some g1 =>
      have judged1 := validGeneration_eq_some.mp valid1
      have chosen := selectSlot_valid_valid g0 g1
      rw [← judged0, ← judged1] at chosen
      by_cases newer : g0.toNat < g1.toNat
      · rw [if_pos newer] at chosen
        exact (if_pos newer).mpr (runsSlot chosen judged1)
      · rw [if_neg newer] at chosen
        exact (if_neg newer).mpr (runsSlot chosen judged0)
    | none => exact runsSlot (judged0 ▸ selectSlot_valid_left (validGeneration_eq_none.mp valid1) g0) judged0
  | none =>
    have notValid0 := validGeneration_eq_none.mp valid0
    cases valid1 : validGeneration q.prof.slot1 with
    | some g1 =>
      have judged1 := validGeneration_eq_some.mp valid1
      exact runsSlot (judged1 ▸ selectSlot_valid_right notValid0 g1) judged1
    | none =>
      obtain ⟨active, generation, factory⟩ :=
        selectProfile_of_none (selectSlot_eq_none notValid0 (validGeneration_eq_none.mp valid1))
      exact ⟨(congrArg Profile.active prof).trans active, (congrArg Profile.generation prof).trans generation,
        ws.trans factory⟩

end Sys2Proof.Proofs
end

section
/-! PROOFS. The check values of the CRC (O4). -/

namespace Sys2Proof.Proofs

open Sys2Proof.Machine Sys2Proof.Safety Sys2Proof.Claims

/-! ### The CRC and the frame that carries it (R199, R200) -/

/-- The register after one more byte is the register before it, advanced by that byte (R200). -/
theorem crc16_concat (bytes : List Byte) (b : Byte) : crc16 (bytes ++ [b]) = crcByte (crc16 bytes) b :=
  List.foldl_concat ..

/-- A frame that the part builds ends in the CRC of what stands before it, its low byte first (R199, R200). -/
theorem mkFrame_bytes (kind tag : Byte) (body : List Byte) :
    (mkFrame kind tag body).bytes =
      0xC3#8 :: BitVec.ofNat 8 body.length :: kind :: tag :: (body ++ le16 (frameCrc kind tag body).toNat) := rfl

/-- Settles O4: each byte of the HELLO advances the register that the byte before it left, and the last register closes the
frame. -/
theorem crcCheckValues : Obligations.CrcCheckValues := by
  have nineDigits : crc16 [0x31, 0x32, 0x33, 0x34, 0x35, 0x36, 0x37, 0x38, 0x39] = 0x29B1#16 := by decide_cbv
  have afterLength : crc16 [0x00] = 0xE1F0#16 := by decide
  have afterKind : crc16 [0x00, 0x01] = 0x0D2E#16 :=
    calc crc16 ([0x00] ++ [0x01])
      _ = crcByte 0xE1F0#16 0x01 := by rw [crc16_concat, afterLength]
      _ = 0x0D2E#16 := by decide
  have afterTag : crc16 [0x00, 0x01, 0x01] = 0xEF8C#16 :=
    calc crc16 ([0x00, 0x01] ++ [0x01])
      _ = crcByte 0x0D2E#16 0x01 := by rw [crc16_concat, afterKind]
      _ = 0xEF8C#16 := by decide
  have helloCrc : frameCrc 0x01 0x01 [] = 0xEF8C#16 := afterTag
  refine ⟨nineDigits, afterLength, afterKind, afterTag, ?_⟩
  rw [mkFrame_bytes, helloCrc]
  decide

end Sys2Proof.Proofs
end
